-- ==== Sys2Proof/Word.lean ====
section
/-! DEFINITION. The byte: the unit of every link frame (Chapter 12). Quantities the part keeps as whole numbers in a
fixed unit (currents, times, counts, generations) are natural numbers, not bytes. -/

namespace Sys2Proof

/-- One byte of a frame, bits numbered 7 (most significant) to 0 (Chapter 12). -/
abbrev Byte := BitVec 8

end Sys2Proof
end

