-- ==== Sys2Proof/Syntax.lean ====
section
/-! DEFINITION. The commands of the part: one constructor of `Instr` for each row of spec/opcode_table.json. A link
command carries the frame it came in, as received, so that no bit of a frame is lost; a happening carries what the
part sees of it. -/

namespace Sys2Proof

/-- A channel, CH0 to CH7 (R61). -/
abbrev ChannelId := Fin 8

/-- A profile, P1 to P32, counted from 0: the id in a frame is this number plus 1 (R1). -/
abbrev ProfileId := Fin 32

/-- Bytes 1 to 10 of a request frame, as received (12.1). Byte 0 is the command's code and byte 11 the check byte over
bytes 0 to 10, which an accepted frame has right (R186). -/
structure Frame where
  b1 : Byte := 0
  b2 : Byte := 0
  b3 : Byte := 0
  b4 : Byte := 0
  b5 : Byte := 0
  b6 : Byte := 0
  b7 : Byte := 0
  b8 : Byte := 0
  b9 : Byte := 0
  b10 : Byte := 0
  deriving DecidableEq, Repr

/-- The level of a CTL line as one sample sees it (R72). -/
inductive LineLevel where
  | deasserted
  | asserted
  deriving DecidableEq, Repr

/-- What the outside world gives a channel in one regulation period (R72, R82, R84, R138). -/
structure PeriodReport where
  /-- The coil current measured over the period, in 10 mA, before it saturates at 1023 (R84). -/
  sensed : Nat
  /-- The duty the stage's regulation ended the period with, in 1/256 (R85). -/
  duty : Byte
  /-- Whether the pull check's comparison found the output out of band (R138). -/
  outOfBand : Bool
  /-- The level of the channel's CTL line as sampled in the period (R72). -/
  ctl : LineLevel
  deriving DecidableEq, Repr

/-- Whose regulation period ends: each channel counts its own periods, and the parts that exist once (the monitor, the mode
controller's sample of nSAFE, the stretch timer, the store write) count periods too (R82, R141, R150, R155, R175). See notes/assumptions/3.md. -/
inductive Period where
  | channel (ch : ChannelId) (report : PeriodReport)
  /-- VS and VDD in 10 mV and the die temperature in °C, as the monitor measures them in the period (R141, R143), and the level of
  nSAFE as the mode controller samples it in the period (R155). -/
  | shared (vs vdd : Nat) (temp : Int) (nsafe : LineLevel)
  deriving DecidableEq, Repr

/-- What holds the part in full reset (R143). -/
inductive ResetCause where
  | powerOn
  | vdd (vdd : Nat)
  | nReset
  deriving DecidableEq, Repr

/-- The commands and happenings of the part, one for each row of spec/opcode_table.json. -/
inductive Instr where
  -- Chapter 1
  | openDraft (f : Frame)
  | discardDraft (f : Frame)
  | commit (f : Frame)
  | retire (f : Frame)
  | readTableMap (f : Frame)
  | readProfile (f : Frame)
  | clearWithheld (f : Frame)
  -- Chapter 2
  | setPhase (f : Frame)
  | insertPhase (f : Frame)
  | deletePhase (f : Frame)
  | setFields (f : Frame)
  | readPhase (f : Frame)
  | readPool (f : Frame)
  | checkDraft (f : Frame)
  -- Chapters 4 to 6
  | bind (f : Frame)
  | unbind (f : Frame)
  | setChannel (f : Frame)
  | readChannel (f : Frame)
  | actuate (f : Frame)
  | release (f : Frame)
  | readOutcome (f : Frame)
  -- Chapter 8
  | readFaults (f : Frame)
  | clearFaults (f : Frame)
  | setFaultMask (f : Frame)
  -- Chapter 9
  | arm (f : Frame)
  | disarm (f : Frame)
  | safeStop (f : Frame)
  | leaveSafe (f : Frame)
  | softReset (f : Frame)
  -- Chapter 10
  | storeOpen (f : Frame)
  | storeClose (f : Frame)
  | storeWriteProfile (f : Frame)
  | storeWriteMap (f : Frame)
  | storeLock (f : Frame)
  | storeQuery (f : Frame)
  -- Chapter 11
  | nop (f : Frame)
  /-- A frame that passes its check and whose byte 0 is none of the 36 codes (R188). -/
  | unknownCommand (code : Byte) (f : Frame)
  /-- nCS is seen falling (R184, R190). -/
  | frameBegin
  /-- nCS is seen rising on a frame of the wrong length or with a bad check byte; the bits in the order received (R187). -/
  | frameRejected (bits : List Bool)
  -- the lines
  | ctlAsserted (ch : ChannelId)
  | ctlDeasserted (ch : ChannelId)
  | nsafeAsserted
  | nsafeDeasserted
  -- full reset and loading
  | fullReset (cause : ResetCause)
  /-- VDD in 10 mV, and whether nRESET is high, as the full reset may end (R143). -/
  | fullResetEnd (vdd : Nat) (nResetHigh : Bool)
  | loadProfileSlot
  | loadMapSlot
  | loadLockSlot
  -- the monitor: VS in 10 mV, the die temperature in °C
  | uvmOnset (vs : Nat)
  | uvmClears (vs : Nat)
  | ovtOnset (temp : Int)
  | ovtClears (temp : Int)
  | progOkTrue (vs : Nat)
  | progOkFalse (vs : Nat)
  -- time
  | storeWriteComplete
  | regulationPeriod (p : Period)
  | phaseEnd (ch : ChannelId)
  | holdExpired (ch : ChannelId)
  | minOnReached (ch : ChannelId)
  | dipConfirmed (ch : ChannelId)
  | resistanceSample (ch : ChannelId)
  | openLoadLatchSet (ch : ChannelId)
  | overcurrentTrip (ch : ChannelId)
  | stretchExpired
  deriving DecidableEq, Repr

end Sys2Proof
end

