-- ==== Sys2Proof/Machine/Command.lean ====
section
/-! DEFINITION. The 36 link commands and their codes (12.5 to 12.8). -/

namespace Sys2Proof.Machine

/-- The 36 commands of the link (R188). -/
inductive Command where
  | nop
  | openDraft | discardDraft | commit | retire | readTableMap | readProfile | clearWithheld
  | setPhase | insertPhase | deletePhase | setFields | readPhase | readPool | checkDraft
  | bind | unbind | setChannel | readChannel | actuate | release | readOutcome
  | readFaults | clearFaults | setFaultMask
  | arm | disarm | safeStop | leaveSafe | softReset
  | storeOpen | storeClose | storeWriteProfile | storeWriteMap | storeLock | storeQuery
  deriving DecidableEq, Repr

/-- The command code of a command (12.5, 12.6, 12.8). -/
def commandCode : Command → Byte
  | .nop => 1
  | .openDraft => 16
  | .discardDraft => 17
  | .commit => 18
  | .retire => 19
  | .readTableMap => 20
  | .readProfile => 21
  | .clearWithheld => 22
  | .setPhase => 32
  | .insertPhase => 33
  | .deletePhase => 34
  | .setFields => 35
  | .readPhase => 36
  | .readPool => 37
  | .checkDraft => 38
  | .bind => 48
  | .unbind => 49
  | .setChannel => 50
  | .readChannel => 51
  | .actuate => 52
  | .release => 53
  | .readOutcome => 54
  | .readFaults => 64
  | .clearFaults => 65
  | .setFaultMask => 66
  | .arm => 80
  | .disarm => 81
  | .safeStop => 82
  | .leaveSafe => 83
  | .softReset => 84
  | .storeOpen => 96
  | .storeClose => 97
  | .storeWriteProfile => 98
  | .storeWriteMap => 99
  | .storeLock => 100
  | .storeQuery => 101

/-- The 36 commands, in the order of their codes. -/
def allCommands : List Command :=
  [.nop, .openDraft, .discardDraft, .commit, .retire, .readTableMap, .readProfile, .clearWithheld,
   .setPhase, .insertPhase, .deletePhase, .setFields, .readPhase, .readPool, .checkDraft,
   .bind, .unbind, .setChannel, .readChannel, .actuate, .release, .readOutcome,
   .readFaults, .clearFaults, .setFaultMask, .arm, .disarm, .safeStop, .leaveSafe, .softReset,
   .storeOpen, .storeClose, .storeWriteProfile, .storeWriteMap, .storeLock, .storeQuery]

/-- The command a code stands for, if it is one of the 36 (R188). -/
def commandOfCode (code : Byte) : Option Command :=
  allCommands.find? fun c => commandCode c == code

end Sys2Proof.Machine
end

