-- ==== Sys2Proof/Config.lean ====
section
/-! DEFINITION. The constants of the part. The manual leaves no value to an implementation and no result of a command
undefined, so there is no free value here: what the coils, the supply and the die do comes in as operands of the
happenings (notes/assumptions/28.md). -/

namespace Sys2Proof.Config

/-- Entries of the phase pool (R30). -/
def poolSize : Nat := 160

/-- Largest count of the energize sequence (R29, R36). -/
def maxEnergize : Nat := 6

/-- Largest count of the release sequence (R29, R36). -/
def maxRelease : Nat := 2

/-- Largest generation (R4). -/
def maxGeneration : Nat := 65535

/-- The failure run saturates here (R127). -/
def maxFailureRun : Nat := 15

/-- Consecutive out-of-band periods that set an OPEN_LOAD latch: 300 µs (R139). -/
def openLoadPeriods : Nat := 6

/-- Sensed current, in 10 mA, below which an overcurrent condition ends (R136, R137). -/
def overcurrentLevel : Nat := 500

/-- The stage's highest target, in 10 mA (R84). -/
def maxTarget : Nat := 400

/-- Highest reported sensed current, in 10 mA (R84). -/
def maxSensed : Nat := 1023

/-- Periods into an open-ended hold at which the resistance is sampled: 20 ms (R114). -/
def samplePeriod : Nat := 400

/-- Regulation periods in one unit, 0.1 s, of the hold cap (R82). -/
def holdCapPeriods : Nat := 2000

/-- Regulation periods of a store write: 3 ms (R175). -/
def storeWritePeriods : Nat := 60

/-- Value at which 16-bit reported counts saturate (R71, R101, R114). -/
def max16 : Nat := 65535

/-- UVM begins below this VS measurement, in 10 mV (R141). -/
def uvmOnsetBelow : Nat := 600

/-- UVM ends above this VS measurement, in 10 mV (R141). -/
def uvmClearsAbove : Nat := 650

/-- PROG_OK becomes true at or above this VS measurement, in 10 mV (R141). -/
def progOkFrom : Nat := 1100

/-- PROG_OK becomes false below this VS measurement, in 10 mV (R141). -/
def progOkLostBelow : Nat := 1050

/-- Highest VS measurement kept, in 10 mV (R141). -/
def maxVs : Nat := 4095

/-- OVT begins at or above this die temperature, in °C (R141). -/
def ovtOnsetFrom : Int := 165

/-- OVT ends below this die temperature, in °C (R141). -/
def ovtClearsBelow : Int := 145

/-- Lowest die temperature kept, in °C (R141). -/
def minTemp : Int := -40

/-- Highest die temperature kept, in °C (R141). -/
def maxTemp : Int := 200

/-- VDD measurement, in 10 mV, below which the part is in full reset (R143). -/
def vddAdequateFrom : Nat := 250

/-- Bits of a link frame (R185). -/
def frameBits : Nat := 96

/-- Low eight bits of the frame check's generator x^8 + x^2 + x + 1 (R186). -/
def crc8Poly : BitVec 8 := 0x07#8

/-- The frame check's first register value (R186). -/
def crc8Init : BitVec 8 := 0xFF#8

/-- Low sixteen bits of the copy check's generator x^16 + x^12 + x^5 + 1 (R167). -/
def crc16Poly : BitVec 16 := 0x1021#16

/-- The copy check's first register value (R167). -/
def crc16Init : BitVec 16 := 0xFFFF#16

end Sys2Proof.Config
end

