-- ==== Sys2Proof/Machine/Crc.lean ====
section
/-! DEFINITION. The two check words: CRC-8 over a frame (R186) and CRC-16 over a store copy (R167); and bytes as the
link carries them, most significant bit first (R184). -/

namespace Sys2Proof.Machine

/-- One shift of the CRC-8 register toward its most significant end (R186). -/
def crc8Shift (r : BitVec 8) : BitVec 8 :=
  if r.msb then (r <<< 1) ^^^ Config.crc8Poly else r <<< 1

/-- One byte taken into the CRC-8 register: exclusive-or, then eight shifts (R186). -/
def crc8Byte (r : BitVec 8) (b : Byte) : BitVec 8 :=
  crc8Shift (crc8Shift (crc8Shift (crc8Shift (crc8Shift (crc8Shift (crc8Shift (crc8Shift (r ^^^ b))))))))

/-- The check byte over a list of bytes (R186). -/
def crc8 (bs : List Byte) : Byte :=
  bs.foldl crc8Byte Config.crc8Init

/-- One shift of the CRC-16 register toward its most significant end (R167). -/
def crc16Shift (r : BitVec 16) : BitVec 16 :=
  if r.msb then (r <<< 1) ^^^ Config.crc16Poly else r <<< 1

/-- One byte taken into the CRC-16 register, most significant bit first (R167). -/
def crc16Byte (r : BitVec 16) (b : Byte) : BitVec 16 :=
  crc16Shift (crc16Shift (crc16Shift (crc16Shift (crc16Shift (crc16Shift (crc16Shift (crc16Shift
    (r ^^^ (b.setWidth 16 <<< 8)))))))))

/-- The check word over a list of bytes, with no final inversion (R167). -/
def crc16 (bs : List Byte) : BitVec 16 :=
  bs.foldl crc16Byte Config.crc16Init

/-- The bits of a byte in the order the link sends them (R184). -/
def byteBits (b : Byte) : List Bool :=
  [b.getLsbD 7, b.getLsbD 6, b.getLsbD 5, b.getLsbD 4, b.getLsbD 3, b.getLsbD 2, b.getLsbD 1, b.getLsbD 0]

/-- The bits of bytes in the order the link sends them (R184). -/
def bytesBits (bs : List Byte) : List Bool :=
  bs.flatMap byteBits

/-- The byte that eight bits spell, the first the most significant (R184). -/
def byteOfBits (b7 b6 b5 b4 b3 b2 b1 b0 : Bool) : Byte :=
  BitVec.ofBool b7 ++ BitVec.ofBool b6 ++ BitVec.ofBool b5 ++ BitVec.ofBool b4 ++
    BitVec.ofBool b3 ++ BitVec.ofBool b2 ++ BitVec.ofBool b1 ++ BitVec.ofBool b0

/-- The whole bytes of a list of bits; bits left over at its end are dropped. -/
def bitsBytes : List Bool → List Byte
  | b7 :: b6 :: b5 :: b4 :: b3 :: b2 :: b1 :: b0 :: rest => byteOfBits b7 b6 b5 b4 b3 b2 b1 b0 :: bitsBytes rest
  | _ => []

/-- Whether byte 11 of twelve bytes is the check byte over bytes 0 to 10 (R186). -/
def checkByteRight (bs : List Byte) : Bool :=
  bs.drop 11 == [crc8 (bs.take 11)]

/-- Whether the port accepts a frame by its length and its check (R185, R186). -/
def frameAccepted (bits : List Bool) : Bool :=
  bits.length == Config.frameBits && checkByteRight (bitsBytes bits)

end Sys2Proof.Machine
end

