-- ==== Sys2Proof/Machine/State.lean ====
section
/-! DEFINITION. The state of the part, block by block, and the state right after reset. Every item of the manual's tables
of what each block keeps is here; an item that follows from others is computed from them and not kept twice
(notes/assumptions/27.md). -/

namespace Sys2Proof.Machine

/-! ### Phases, versions and profiles (Chapters 1 and 2) -/

/-- The five phase kinds (R26). -/
inductive PhaseKind where
  | rampCurrent | holdCurrent | driveDuty | fastDecay | coast
  deriving DecidableEq, Repr

/-- A phase entry while a version holds it (R26). -/
structure PhaseEntry where
  kind : PhaseKind
  /-- 10 mA, or 1/256 for `driveDuty`. -/
  level : Nat
  /-- 0.1 ms; 0 is open-ended. -/
  duration : Nat
  /-- 10 mA; absent means the ramp begins from the current sensed as the phase is entered. -/
  start : Option Nat
  hit : Bool
  motion : Bool
  deriving DecidableEq, Repr

/-- The bounds of a travel or a resistance window (R28). -/
structure Window where
  lo : Nat
  hi : Nat
  deriving DecidableEq, Repr

/-- The profile-level fields of a version (R28). -/
structure Fields where
  /-- 0.1 ms. -/
  minOn : Nat
  /-- 0.1 s. -/
  holdCap : Nat
  /-- 10 mA. -/
  hitTolerance : Nat
  /-- 10 mA. -/
  dipThreshold : Option Nat
  /-- Regulation periods. -/
  dipPersistence : Nat
  /-- 0.1 ms. -/
  travelWindow : Option Window
  /-- 0.1 Ω. -/
  resistanceWindow : Option Window
  failureThreshold : Nat
  deriving DecidableEq, Repr

/-- The two sequences of a version (R29). -/
inductive Seq where
  | energize | release
  deriving DecidableEq, Repr

/-- A complete shape: the two sequences, from head to tail, and the fields (R28, R29). A draft is a shape. -/
structure Shape where
  energize : List PhaseEntry
  release : List PhaseEntry
  fields : Fields
  deriving DecidableEq, Repr

/-- A version that has been made live: its shape, its generation and its engagement count (R1, R4). -/
structure Version where
  gen : Nat
  shape : Shape
  engaged : Nat
  deriving DecidableEq, Repr

/-- A profile entry (R1). Its state follows from its versions (R3). -/
structure Profile where
  live : Option Version
  draft : Option Shape
  draining : Option Version
  highWater : Nat
  bindingCount : Nat
  failureRun : Nat
  withheld : Bool
  deriving DecidableEq, Repr

/-! ### Channels (Chapters 4 and 5) -/

/-- Which inputs may start a channel (R61, R75). -/
inductive TriggerSource where
  | pin | link | either
  deriving DecidableEq, Repr

/-- The input that started an actuation (R61). -/
inductive Origin where
  | pin | link
  deriving DecidableEq, Repr

/-- The activity states (R62). -/
inductive Activity where
  | unbound | ready | energizing | holding | releasing | faulted
  deriving DecidableEq, Repr

/-- Where a release request comes from (R92, R93). -/
inductive ReleaseSource where
  | pin | link | disarm
  deriving DecidableEq, Repr

/-- The end causes, in the order of R117. -/
inductive EndCause where
  | releasedPin | releasedLink | selfTimed | holdExpired | disarmed
  | overcurrent | suspendedSupply | suspendedTemp | safeStop | softReset
  deriving DecidableEq, Repr

/-- What describes a running actuation (R61, R92): it is there from an accepted start to the end, and absent otherwise. -/
structure Actuation where
  /-- The engaged version: its profile. -/
  profile : ProfileId
  /-- The engaged version: its generation. -/
  gen : Nat
  origin : Origin
  /-- The phase cursor: its sequence. -/
  seq : Seq
  /-- The phase cursor: its position. -/
  pos : Nat
  /-- Time into the actuation, in regulation periods. -/
  time : Nat
  /-- Time into the phase, in regulation periods. -/
  phaseTime : Nat
  /-- Release held from (R92). The pending release flag is set exactly when it is present. -/
  heldFrom : Option ReleaseSource
  /-- End cause noted (R92). -/
  noted : Option EndCause
  /-- Early release held (R92). -/
  earlyHeld : Bool
  /-- The sensed current as the phase at the cursor was entered: S of R86 where the phase has no start level. -/
  entryCurrent : Nat
  deriving DecidableEq, Repr

/-- The diagnostic findings, in the order of R116. -/
inductive Finding where
  | noMotion | travelDrift | hitShort | resLow | resHigh | earlyReleaseHeld
  deriving DecidableEq, Repr

/-- The verdict on an actuation (R118). -/
inductive Verdict where
  | clean | flawed | aborted
  deriving DecidableEq, Repr

/-- Where the table found an engaged version (R102, R117). -/
inductive VersionKind where
  | live | draining
  deriving DecidableEq, Repr

/-- Travel time, peak and valley, present or absent together (R117). -/
structure MotionMeasures where
  /-- 0.1 ms. -/
  travel : Nat
  /-- 10 mA. -/
  peak : Nat
  /-- 10 mA. -/
  valley : Nat
  deriving DecidableEq, Repr

/-- An outcome record (R117). -/
structure OutcomeRecord where
  number : Nat
  profile : ProfileId
  gen : Nat
  versionKind : VersionKind
  origin : Origin
  cause : EndCause
  findings : List Finding
  verdict : Verdict
  /-- 0.1 ms. -/
  duration : Nat
  motion : Option MotionMeasures
  /-- 0.1 Ω. -/
  resistance : Option Nat
  previousUnread : Bool
  deriving DecidableEq, Repr

/-- The level last seen on a CTL line; `unsampled` until the first sample after a full reset (R72). -/
inductive CtlSeen where
  | unsampled | deasserted | asserted
  deriving DecidableEq, Repr

/-- A channel record (R61). The activity state follows from it (R62). -/
structure Channel where
  binding : Option ProfileId
  unbindPending : Bool
  trigger : TriggerSource
  openLoadCheck : Bool
  running : Option Actuation
  edgeArmed : Bool
  ctlSeen : CtlSeen
  outcome : Option OutcomeRecord
  unread : Bool
  deriving DecidableEq, Repr

/-! ### Drive stages and diagnostic units (Chapters 5 and 6) -/

/-- The stage's output modes (R84). -/
inductive OutputMode where
  | off | regulate | duty | decay
  deriving DecidableEq, Repr

/-- A drive stage (R84). The OUT pin carries what `mode`, `target` and `duty` say. -/
structure Stage where
  mode : OutputMode
  /-- 10 mA. -/
  target : Nat
  /-- 1/256. -/
  duty : Nat
  /-- 10 mA. -/
  sensed : Nat
  deriving DecidableEq, Repr

/-- How far the search for the dip has come (R106). -/
inductive MotionSearch where
  | off | waiting | searching | inDip | found | closed
  deriving DecidableEq, Repr

/-- The motion judgment made when the search closed (R106). -/
inductive MotionFinding where
  | none | noMotion | travelDrift
  deriving DecidableEq, Repr

/-- The hit check's outcome (R106). -/
inductive HitResult where
  | notJudged | met | short
  deriving DecidableEq, Repr

/-- The resistance window's judgment (R106). -/
inductive ResistanceResult where
  | notJudged | within | low | high
  deriving DecidableEq, Repr

/-- A diagnostic unit (R106). -/
structure Diag where
  search : MotionSearch
  peak : Option Nat
  dipCount : Nat
  candStart : Option Nat
  candLow : Option Nat
  dipTime : Option Nat
  dipPeak : Option Nat
  valley : Option Nat
  motionFinding : MotionFinding
  hit : HitResult
  sample : Option Nat
  resistance : ResistanceResult
  /-- 10 mV: VS as the monitor measured it in the unit's last period of an energize phase, of which a resistance sample is
  made (R114). No item of the manual's table (notes/assumptions/24.md). -/
  supply : Nat
  deriving DecidableEq, Repr

/-! ### Fault unit and monitor (Chapter 8) -/

/-- The pull check result (R135). -/
inductive PullResult where
  | notRunning | inBand | outOfBand
  deriving DecidableEq, Repr

/-- What the fault unit keeps of one channel (R135). -/
structure ChannelFault where
  overcurrent : Bool
  openLoad : Bool
  pull : PullResult
  window : Nat
  /-- The overcurrent condition (R137): no item of the manual's table, but what CLEAR_FAULTS judges. -/
  overcurrentPresent : Bool
  /-- Whether the period in which the comparator tripped has not ended: it is no whole period after the trip (R137;
  notes/assumptions/21.md). -/
  tripPeriod : Bool
  deriving DecidableEq, Repr

/-- One mask for each fault class; `true` is set (R135). -/
structure Masks where
  overcurrent : Bool
  openLoad : Bool
  ovt : Bool
  uvm : Bool
  comm : Bool
  withheld : Bool
  deriving DecidableEq, Repr

/-- The stretch setting (R135). -/
inductive StretchSetting where
  | zero | ms250 | ms500 | ms1000
  deriving DecidableEq, Repr

/-- The fault unit (R135). -/
structure FaultUnit where
  channels : Vector ChannelFault 8
  ovt : Bool
  uvm : Bool
  comm : Bool
  masks : Masks
  stretch : StretchSetting
  /-- Regulation periods remaining; absent when stopped. At 0 the stop is due (R150; notes/assumptions/4.md). -/
  timer : Option Nat
  deriving DecidableEq, Repr

/-- The supply and temperature monitor (R141). -/
structure Monitor where
  /-- 10 mV. -/
  vs : Nat
  /-- °C. -/
  temp : Int
  uvm : Bool
  ovt : Bool
  progOk : Bool
  deriving DecidableEq, Repr

/-! ### Mode controller (Chapter 9) -/

/-- The part modes (R154). -/
inductive PartMode where
  | loading | standby | armed | suspended | safe
  deriving DecidableEq, Repr

/-- The mode controller (R154). -/
structure ModeControl where
  mode : PartMode
  /-- The nSAFE level last seen. -/
  nsafeSeen : LineLevel
  nsafeRemembered : Bool
  deriving DecidableEq, Repr

/-! ### Profile store and loader (Chapter 10) -/

/-- The states of a copy (R166). -/
inductive CopyState where
  | blank | valid | spoiled
  deriving DecidableEq, Repr

/-- What a map copy holds for one channel (R167). -/
structure MapEntry where
  binding : Option ProfileId
  trigger : TriggerSource
  openLoadCheck : Bool
  deriving DecidableEq, Repr

/-- The content of a copy (R167). -/
inductive CopyContent where
  | profile (id : ProfileId) (gen : Nat) (shape : Shape)
  | map (channels : Vector MapEntry 8) (armAtStart : Bool)
  | lockMark
  deriving DecidableEq, Repr

/-- One copy as the nonvolatile array holds it (R166, R167). -/
inductive Cell where
  /-- No bit written. -/
  | blank
  /-- Some bits written and not all. -/
  | partlyWritten
  /-- Every bit written: a content and the check word that ends it. -/
  | written (content : CopyContent) (check : BitVec 16)
  deriving DecidableEq, Repr

/-- A slot, counted from 0 in the loader's order: P1 to P32, then the map slot (32), then the lock slot (33) (R166, R179). -/
abbrev Slot := Fin 34

/-- The session state (R168). -/
inductive Session where
  | closed | isOpen | closing
  deriving DecidableEq, Repr

/-- The write in flight (R168). The copy number counts from 1. -/
structure Write where
  slot : Slot
  copy : Nat
  snapshot : CopyContent
  /-- Regulation periods. -/
  remaining : Nat
  deriving DecidableEq, Repr

/-- The outcome of the most recent write to finish (R168). -/
inductive WriteResult where
  | none
  | done (slot : Slot) (copy : Nat)
  | abandoned (slot : Slot) (copy : Nat)
  deriving DecidableEq, Repr

/-- The profile store: the nonvolatile array and the working state (R166, R168). -/
structure Store where
  /-- The nonvolatile array: the copies of each slot, copy 1 first. -/
  array : Vector (List Cell) 34
  /-- The copy-state record. -/
  record : Vector (List CopyState) 34
  locked : Bool
  session : Session
  inFlight : Option Write
  lastResult : WriteResult
  deriving DecidableEq, Repr

/-- The loader's arm request (R162). -/
inductive ArmRequest where
  | armAtStart | stay
  deriving DecidableEq, Repr

/-- The loader: the slot it works on next (34 when it is through), the ids that loaded, and its arm request (R179, R180). -/
structure Loader where
  next : Nat
  loaded : Vector Bool 32
  request : ArmRequest
  deriving DecidableEq, Repr

/-! ### Link port (Chapter 11) -/

/-- The 32 result codes, in the order of their values (12.9). -/
inductive ResultCode where
  | ok | accepted | frameRejected | noPrior | notReady | modeRefused | unknownCommand | badTarget
  | badParam | noProfile | noVersion | noDraft | draftExists | poolFull | seqFull | checkFailed
  | drainPending | genLimit | inUse | withheld | busy | wrongSource | unbound | slotExhausted
  | unbindPending | faulted | notActive | lineActive | storeClosed | storeBusy | locked | lowSupply
  deriving DecidableEq, Repr

/-- The reply data of a prepared reply: the reply flags F, the reply nibble N and bytes 4 to 10 (12.2). What a layout does
not name is 0 (R196). -/
structure ReplyData where
  flags : BitVec 3 := 0
  nibble : BitVec 4 := 0
  b4 : Byte := 0
  b5 : Byte := 0
  b6 : Byte := 0
  b7 : Byte := 0
  b8 : Byte := 0
  b9 : Byte := 0
  b10 : Byte := 0
  deriving DecidableEq, Repr

/-- The prepared reply (R183). -/
structure Reply where
  result : ResultCode
  /-- The echoed command code. -/
  code : Byte
  /-- The echoed tag, or its absence. -/
  tag : Option (BitVec 4)
  data : ReplyData
  deriving DecidableEq, Repr

/-- The link port (R183). -/
structure LinkPort where
  /-- The receive buffer: the bits shifted in, in the order received. -/
  received : List Bool
  frameOpen : Bool
  prepared : Reply
  /-- The transmit buffer: twelve bytes. -/
  transmit : Vector Byte 12
  /-- The count of the bits of the transmit buffer already shifted out. -/
  shifted : Nat
  deriving DecidableEq, Repr

/-! ### The whole part -/

/-- The state of the part, and the commands that wait for it. -/
structure State where
  /-- The commands waiting, the next one first. -/
  pending : List Instr
  /-- Whether the part is held in full reset (R143). -/
  inFullReset : Bool
  profiles : Vector Profile 32
  /-- The pool's free count (R30). -/
  free : Nat
  channels : Vector Channel 8
  stages : Vector Stage 8
  diags : Vector Diag 8
  faults : FaultUnit
  monitor : Monitor
  modes : ModeControl
  store : Store
  loader : Loader
  link : LinkPort
  deriving DecidableEq, Repr

/-- A fault stops the machine. No step of this part does: every row of the table has an effect that the manual gives, so
no meaning raises one. -/
inductive Fault where
  deriving DecidableEq, Repr

/-- Why a command has no meaning. -/
inductive Refusal where
  /-- Raised by `exec` for a row that has no meaning yet; no arm raises it now. Safe: the machine stops. -/
  | notModelled (mnemonic : String)
  deriving DecidableEq, Repr

/-- What a step answers. -/
abbrev Out := Host.Outcome State Fault Refusal

/-! ### After reset -/

/-- A profile entry with no versions, as full reset leaves it (R23). -/
def Profile.empty : Profile :=
  { live := none, draft := none, draining := none, highWater := 0, bindingCount := 0, failureRun := 0, withheld := false }

/-- A channel record as full reset leaves it (R80). -/
def Channel.reset : Channel :=
  { binding := none, unbindPending := false, trigger := .pin, openLoadCheck := false, running := none,
    edgeArmed := false, ctlSeen := .unsampled, outcome := none, unread := false }

/-- A drive stage as full reset leaves it (R84; the sensed current: notes/assumptions/10.md). -/
def Stage.reset : Stage :=
  { mode := .off, target := 0, duty := 0, sensed := 0 }

/-- A diagnostic unit as full reset leaves it (R106). -/
def Diag.reset : Diag :=
  { search := .off, peak := none, dipCount := 0, candStart := none, candLow := none, dipTime := none, dipPeak := none,
    valley := none, motionFinding := .none, hit := .notJudged, sample := none, resistance := .notJudged, supply := 0 }

/-- What the fault unit keeps of a channel after full reset (R135). -/
def ChannelFault.reset : ChannelFault :=
  { overcurrent := false, openLoad := false, pull := .notRunning, window := 0, overcurrentPresent := false,
    tripPeriod := false }

/-- The masks after full reset: every class reaches nFAULT (R135). -/
def Masks.reset : Masks :=
  { overcurrent := false, openLoad := false, ovt := false, uvm := false, comm := false, withheld := false }

/-- The fault unit after full reset (R135). -/
def FaultUnit.reset : FaultUnit :=
  { channels := Vector.replicate 8 ChannelFault.reset, ovt := false, uvm := false, comm := false, masks := Masks.reset,
    stretch := .zero, timer := none }

/-- The monitor after full reset (R141; the measurements: notes/assumptions/9.md). -/
def Monitor.reset : Monitor :=
  { vs := 0, temp := 0, uvm := false, ovt := false, progOk := false }

/-- The mode controller as the full reset ends (R154; the nSAFE level: notes/assumptions/8.md). -/
def ModeControl.reset : ModeControl :=
  { mode := .loading, nsafeSeen := .deasserted, nsafeRemembered := false }

/-- How many copies a slot has: three, and two for the lock slot (R166). -/
def copiesOf (slot : Slot) : Nat :=
  if slot = 33 then 2 else 3

/-- An array in which no copy was ever written. -/
def blankArray : Vector (List Cell) 34 :=
  Vector.ofFn fun slot => List.replicate (copiesOf slot) .blank

/-- The copy-state record of such an array. -/
def blankRecord : Vector (List CopyState) 34 :=
  Vector.ofFn fun slot => List.replicate (copiesOf slot) .blank

/-- The store after full reset, over the array the reset left (R168; the record and the locked state before the load:
notes/assumptions/12.md). -/
def Store.reset (array : Vector (List Cell) 34) : Store :=
  { array := array, record := blankRecord, locked := false, session := .closed, inFlight := none, lastResult := .none }

/-- The loader before its first slot (R179, R181). -/
def Loader.reset : Loader :=
  { next := 0, loaded := Vector.replicate 32 false, request := .stay }

/-- The NO_PRIOR reply (R183, R196). -/
def Reply.noPrior : Reply :=
  { result := .noPrior, code := 0, tag := none, data := {} }

/-- The link port after full reset (R183; the transmit buffer: notes/assumptions/11.md). -/
def LinkPort.reset : LinkPort :=
  { received := [], frameOpen := false, prepared := Reply.noPrior, transmit := Vector.replicate 12 0, shifted := 0 }

/-- Every block in its full-reset state, over the nonvolatile array that the reset leaves as it was (R143, R166). -/
def State.fullReset (array : Vector (List Cell) 34) : State :=
  { pending := [], inFullReset := true, profiles := Vector.replicate 32 Profile.empty, free := Config.poolSize,
    channels := Vector.replicate 8 Channel.reset, stages := Vector.replicate 8 Stage.reset,
    diags := Vector.replicate 8 Diag.reset, faults := FaultUnit.reset, monitor := Monitor.reset,
    modes := ModeControl.reset, store := Store.reset array, loader := Loader.reset, link := LinkPort.reset }

/-- The part right after a full reset has ended, LOADING begun and no slot loaded yet, with a store that was never written
(notes/assumptions/1.md). -/
def State.reset : State :=
  { State.fullReset blankArray with inFullReset := false }

end Sys2Proof.Machine
end

