-- ==== Sys2Proof/Machine/Ops.lean ====
section
/-! DEFINITION. The named operations over the state: reading and replacing one profile entry, channel record, stage,
diagnostic unit or copy; what a profile and a version hold; the pool; binding, engaging and disengaging. -/

namespace Sys2Proof.Machine

/-! ### One item of a block -/

/-- The entry of a profile. -/
def State.profile (s : State) (p : ProfileId) : Profile := s.profiles.get p

/-- The state with the entry of a profile replaced. -/
def State.setProfile (s : State) (p : ProfileId) (e : Profile) : State :=
  { s with profiles := s.profiles.set p.val e p.isLt }

/-- The record of a channel. -/
def State.channel (s : State) (ch : ChannelId) : Channel := s.channels.get ch

/-- The state with the record of a channel replaced. -/
def State.setChannel (s : State) (ch : ChannelId) (c : Channel) : State :=
  { s with channels := s.channels.set ch.val c ch.isLt }

/-- The drive stage of a channel. -/
def State.stage (s : State) (ch : ChannelId) : Stage := s.stages.get ch

/-- The state with the drive stage of a channel replaced. -/
def State.setStage (s : State) (ch : ChannelId) (st : Stage) : State :=
  { s with stages := s.stages.set ch.val st ch.isLt }

/-- The diagnostic unit of a channel. -/
def State.diag (s : State) (ch : ChannelId) : Diag := s.diags.get ch

/-- The state with the diagnostic unit of a channel replaced. -/
def State.setDiag (s : State) (ch : ChannelId) (u : Diag) : State :=
  { s with diags := s.diags.set ch.val u ch.isLt }

/-- What the fault unit keeps of a channel. -/
def State.chFault (s : State) (ch : ChannelId) : ChannelFault := s.faults.channels.get ch

/-- The state with what the fault unit keeps of a channel replaced. -/
def State.setChFault (s : State) (ch : ChannelId) (f : ChannelFault) : State :=
  { s with faults := { s.faults with channels := s.faults.channels.set ch.val f ch.isLt } }

/-- The eight channels, CH0 first. -/
def allChannels : List ChannelId := [0, 1, 2, 3, 4, 5, 6, 7]

/-- The thirty-two profiles, P1 first. -/
def allProfiles : List ProfileId :=
  [0, 1, 2, 3, 4, 5, 6, 7, 8, 9, 10, 11, 12, 13, 14, 15,
   16, 17, 18, 19, 20, 21, 22, 23, 24, 25, 26, 27, 28, 29, 30, 31]

/-! ### Shapes, versions and profiles -/

/-- A sequence of a shape, head first (R29). -/
def Shape.seqOf (sh : Shape) : Seq → List PhaseEntry
  | .energize => sh.energize
  | .release => sh.release

/-- A shape with one of its sequences replaced. -/
def Shape.withSeq (sh : Shape) (q : Seq) (es : List PhaseEntry) : Shape :=
  match q with
  | .energize => { sh with energize := es }
  | .release => { sh with release := es }

/-- The pool entries a shape holds (R30). -/
def Shape.size (sh : Shape) : Nat := sh.energize.length + sh.release.length

/-- The fields of a draft opened on an ABSENT profile (R9). -/
def Fields.default : Fields :=
  { minOn := 0, holdCap := 600, hitTolerance := 5, dipThreshold := none, dipPersistence := 4, travelWindow := none,
    resistanceWindow := none, failureThreshold := 3 }

/-- An empty draft with default fields (R9). -/
def Shape.empty : Shape := { energize := [], release := [], fields := Fields.default }

/-- The pool entries an optional live or draining version holds (R30). -/
def versionSize : Option Version → Nat
  | none => 0
  | some v => v.shape.size

/-- The pool entries an optional draft holds (R30). -/
def draftSize : Option Shape → Nat
  | none => 0
  | some d => d.size

/-- The profile states (R3). -/
inductive ProfileState where
  | absent | new | live
  deriving DecidableEq, Repr

/-- The state of a profile follows from its versions (R3). -/
def Profile.state (e : Profile) : ProfileState :=
  if e.live.isSome then .live else if e.draft.isSome then .new else .absent

/-- A profile that becomes ABSENT: its failure run is 0 and it is not withheld (R12). -/
def Profile.cleared (e : Profile) : Profile :=
  { e with failureRun := 0, withheld := false }

/-- A profile that holds no version any longer takes the effects of becoming ABSENT (R12). -/
def Profile.clearIfAbsent (e : Profile) : Profile :=
  if e.state = .absent then e.cleared else e

/-- The failure threshold that governs a profile: that of its live version, 0 where it has none (R124). -/
def Profile.threshold (e : Profile) : Nat :=
  match e.live with
  | none => 0
  | some v => v.shape.fields.failureThreshold

/-! ### The pool -/

/-- The state with entries taken from the pool (R30). -/
def State.allocate (s : State) (n : Nat) : State := { s with free := s.free - n }

/-- The state with entries returned to the pool (R30). -/
def State.freeEntries (s : State) (n : Nat) : State := { s with free := s.free + n }

/-- The entries that all live versions hold together (R42). -/
def State.heldLive (s : State) : Nat := (allProfiles.map fun p => versionSize (s.profile p).live).sum

/-- The entries that all drafts hold together (R42). -/
def State.heldDrafts (s : State) : Nat := (allProfiles.map fun p => draftSize (s.profile p).draft).sum

/-- The entries that all draining versions hold together (R42). -/
def State.heldDraining (s : State) : Nat := (allProfiles.map fun p => versionSize (s.profile p).draining).sum

/-! ### Bindings (R6) -/

/-- A profile's binding count raised by 1 (R6). -/
def State.countBinding (s : State) (p : ProfileId) : State :=
  s.setProfile p { s.profile p with bindingCount := (s.profile p).bindingCount + 1 }

/-- A profile's binding count lowered by 1 (R6). -/
def State.uncountBinding (s : State) (p : ProfileId) : State :=
  s.setProfile p { s.profile p with bindingCount := (s.profile p).bindingCount - 1 }

/-- The channel's binding removed, and the count of the profile it named lowered (R6). -/
def State.removeBinding (s : State) (ch : ChannelId) : State :=
  match (s.channel ch).binding with
  | none => s
  | some p => (s.uncountBinding p).setChannel ch { s.channel ch with binding := none }

/-- The channel bound to a profile: the counts move where it was not bound to that profile already (R6, R66). -/
def State.bindTo (s : State) (ch : ChannelId) (p : ProfileId) : State :=
  if (s.channel ch).binding = some p then s
  else
    let s := s.removeBinding ch
    (s.countBinding p).setChannel ch { s.channel ch with binding := some p }

/-! ### Engagements (R7, R8, R102) and verdicts (R125 to R127) -/

/-- The table engages the live version of a profile, unless it has none or is withheld: the state with the engagement
counted, and the generation engaged (R7). -/
def State.engage (s : State) (p : ProfileId) : Option (State × Nat) :=
  let e := s.profile p
  match e.live with
  | none => none
  | some v =>
    if e.withheld then none
    else some (s.setProfile p { e with live := some { v with engaged := v.engaged + 1 } }, v.gen)

/-- A verdict counted against a profile's live version (R125, R126, R127). -/
def Profile.count (e : Profile) : Verdict → Profile
  | .clean => { e with failureRun := 0, withheld := false }
  | .flawed =>
    let run := min Config.maxFailureRun (e.failureRun + 1)
    { e with
      failureRun := run
      withheld := e.withheld || (decide (e.threshold ≠ 0) && decide (e.threshold ≤ run)) }
  | .aborted => e

/-- Where the generation of an engaged version stands at the table: as the live version, or as the draining one (R8, R71). -/
def State.kindOf (s : State) (p : ProfileId) (gen : Nat) : VersionKind :=
  match (s.profile p).live with
  | none => .draining
  | some v => if v.gen = gen then .live else .draining

/-- The version of a profile that has a generation, live or draining (R8). -/
def State.versionOf (s : State) (p : ProfileId) (gen : Nat) : Option Version :=
  match s.kindOf p gen with
  | .live => (s.profile p).live
  | .draining => (s.profile p).draining.filter fun v => v.gen = gen

/-- A draining version loses one engagement; at its last it is freed to the pool (R8). -/
def State.loseDraining (s : State) (p : ProfileId) (v : Version) : State :=
  if v.engaged ≤ 1 then
    (s.setProfile p { s.profile p with draining := none }).freeEntries v.shape.size
  else
    s.setProfile p { s.profile p with draining := some { v with engaged := v.engaged - 1 } }

/-- The end of an actuation reaches the table as one claim: the version found by its generation loses one engagement, a
draining version that is empty is freed, and a verdict on the live version is counted (R8, R102, R125). -/
def State.disengage (s : State) (p : ProfileId) (gen : Nat) (verdict : Verdict) : State :=
  match s.kindOf p gen with
  | .live =>
    match (s.profile p).live with
    | none => s
    | some v => s.setProfile p (({ s.profile p with live := some { v with engaged := v.engaged - 1 } } : Profile).count verdict)
  | .draining =>
    match (s.profile p).draining with
    | none => s
    | some v => if v.gen = gen then s.loseDraining p v else s

/-! ### Drafts -/

/-- The draft of a profile removed and its entries freed; a NEW profile becomes ABSENT (R11, R12). -/
def State.discard (s : State) (p : ProfileId) : State :=
  (s.setProfile p ({ s.profile p with draft := none } : Profile).clearIfAbsent).freeEntries (draftSize (s.profile p).draft)

/-- The state with the draft of a profile replaced; the pool is not reached. -/
def State.setDraft (s : State) (p : ProfileId) (d : Shape) : State :=
  s.setProfile p { s.profile p with draft := some d }

/-! ### Channels -/

/-- Whether a channel is driving: ENERGIZING, HOLDING or RELEASING (R62). -/
def State.driving (s : State) (ch : ChannelId) : Bool := (s.channel ch).running.isSome

/-- Whether a channel is ENERGIZING or HOLDING (R62). -/
def Channel.energized (c : Channel) : Bool :=
  match c.running with
  | none => false
  | some a => a.seq = .energize

/-- Whether the fault unit holds a latch set for a channel (R135). -/
def ChannelFault.latched (f : ChannelFault) : Bool := f.overcurrent || f.openLoad

/-- Whether a channel is READY: bound, not latched and not driving (R62). -/
def State.ready (s : State) (ch : ChannelId) : Bool :=
  !s.driving ch && !(s.chFault ch).latched && (s.channel ch).binding.isSome

/-- The shape a running actuation works from, read at the table by its generation (R71, chapter 5); empty where no version
has it (notes/assumptions/29.md). -/
def State.shapeOf (s : State) (a : Actuation) : Shape :=
  match s.versionOf a.profile a.gen with
  | none => Shape.empty
  | some v => v.shape

/-- The phase at the cursor of a running actuation. -/
def State.phaseOf (s : State) (a : Actuation) : Option PhaseEntry :=
  ((s.shapeOf a).seqOf a.seq)[a.pos]?

/-- The activity state of a channel follows from its record (R62). -/
def State.activity (s : State) (ch : ChannelId) : Activity :=
  match (s.channel ch).running with
  | some a =>
    match a.seq with
    | .release => .releasing
    | .energize => if (s.phaseOf a).any (fun ph => ph.duration = 0) then .holding else .energizing
  | none =>
    if (s.chFault ch).latched then .faulted
    else if (s.channel ch).binding.isSome then .ready else .unbound

/-- The edge-armed flag as a channel takes it on entering READY: set if the line was last seen deasserted (R73), and so clear
on a line not yet sampled (notes/assumptions/7.md). -/
def Channel.edgeFromLine (c : Channel) : Bool := decide (c.ctlSeen = .deasserted)

/-- The channel's edge-armed flag set from its line if it is READY, and clear if it is not (R73). -/
def State.settleEdge (s : State) (ch : ChannelId) : State :=
  s.setChannel ch { s.channel ch with edgeArmed := s.ready ch && (s.channel ch).edgeFromLine }

end Sys2Proof.Machine
end

