-- ==== Sys2Proof/Machine/Flags.lean ====
section
/-! DEFINITION. The flags and pins that follow from the state: the items of the status byte (R191), the FAULT bit (R152), the
nFAULT line (R151), SDO (R184), and the sets of channels that replies carry. -/

namespace Sys2Proof.Machine

/-- Whether any profile's withheld flag is set: WITHHELD_ANY (R130). -/
def State.withheldAny (s : State) : Bool := allProfiles.any fun p => (s.profile p).withheld

/-- Whether any channel's outcome unread flag is set: OUTCOME_PENDING (R122). -/
def State.outcomePending (s : State) : Bool := allChannels.any fun ch => (s.channel ch).unread

/-- Whether a store write is in flight: STORE_BUSY (R168). -/
def State.storeBusy (s : State) : Bool := s.store.inFlight.isSome

/-- Whether any channel's OVERCURRENT latch is set. -/
def State.overcurrentAny (s : State) : Bool := allChannels.any fun ch => (s.chFault ch).overcurrent

/-- Whether any channel's OPEN_LOAD latch is set. -/
def State.openLoadAny (s : State) : Bool := allChannels.any fun ch => (s.chFault ch).openLoad

/-- The FAULT bit: any latch, device flag or withheld flag, masked or not (R152). -/
def State.faultBit (s : State) : Bool :=
  s.overcurrentAny || s.openLoadAny || s.faults.ovt || s.faults.uvm || s.faults.comm || s.withheldAny

/-- Whether the nFAULT line is asserted, driven low: an unmasked cause, or a running stretch; released during full reset
(R143, R151). -/
def State.nFaultAsserted (s : State) : Bool :=
  !s.inFullReset &&
    ((s.overcurrentAny && !s.faults.masks.overcurrent) ||
      (s.openLoadAny && !s.faults.masks.openLoad) ||
      (s.faults.ovt && !s.faults.masks.ovt) ||
      (s.faults.uvm && !s.faults.masks.uvm) ||
      (s.faults.comm && !s.faults.masks.comm) ||
      (s.withheldAny && !s.faults.masks.withheld) ||
      s.faults.timer.isSome)

/-- A flag as a number, 1 when set. -/
def bit (b : Bool) : Nat := if b then 1 else 0

/-- A set of channels as one byte: bit n stands for CHn (12.4). -/
def channelSet (f : ChannelId → Bool) : Byte :=
  BitVec.ofNat 8 ((allChannels.map fun ch => bit (f ch) * 2 ^ ch.val).sum)

/-- A set of profiles as a 32-bit number: bit k stands for P(k+1) (12.4). -/
def profileSet (f : ProfileId → Bool) : Nat :=
  (allProfiles.map fun p => bit (f p) * 2 ^ p.val).sum

/-- The coding of the part mode in the status byte (12.3). -/
def modeCode : PartMode → Nat
  | .loading => 0
  | .standby => 1
  | .armed => 2
  | .suspended => 3
  | .safe => 4

/-- The status byte, from the present values of its sources (R191, 12.3). -/
def State.statusByte (s : State) : Byte :=
  BitVec.ofNat 8
    (modeCode s.modes.mode * 32 + bit s.faultBit * 16 + bit s.faults.comm * 8 + bit s.withheldAny * 4 +
      bit s.outcomePending * 2 + bit s.storeBusy)

/-- The level of SDO as the port drives it: the next bit of the transmit buffer while a frame is open, 0 after its 96th bit; absent
while SDO is released (R184), as it stays after a full reset that ended with nCS low (DESIGN CHOICE: notes/assumptions/40.md). -/
def LinkPort.sdo (l : LinkPort) : Option Bool :=
  if l.frameOpen then some ((bytesBits l.transmit.toList).getD l.shifted false) else none

/-- The level of SDO: released during full reset too (R184, R192). -/
def State.sdo (s : State) : Option Bool := if s.inFullReset then none else s.link.sdo

end Sys2Proof.Machine
end

