-- ==== Sys2Proof/Machine/Operands.lean ====
section
/-! DEFINITION. The layouts of Chapter 12: how a request's fields are read from its frame, which bits are reserved, which
values the part keeps, and how replies are laid out. -/

namespace Sys2Proof.Machine

/-! ### Bytes and fields -/

/-- A two-byte field, most significant byte first. -/
def word16 (hi lo : Byte) : Nat := hi.toNat * 256 + lo.toNat

/-- A value as one byte of a reply. -/
def byteOf (n : Nat) : Byte := BitVec.ofNat 8 n

/-- The most significant byte of a two-byte field. -/
def hiByte (n : Nat) : Byte := BitVec.ofNat 8 (n / 256)

/-- The least significant byte of a two-byte field. -/
def loByte (n : Nat) : Byte := BitVec.ofNat 8 n

/-- The reply flags F from bits 7, 6 and 5 of byte 1 (12.2). -/
def replyFlags (bit7 bit6 bit5 : Bool) : BitVec 3 := BitVec.ofNat 3 (bit bit7 * 4 + bit bit6 * 2 + bit bit5)

/-- The tag of a request (12.1). -/
def frameTag (f : Frame) : BitVec 4 := f.b1.setWidth 4

/-- The twelve bytes of an accepted frame that carries a code (12.1, R186). -/
def frameBytes (code : Byte) (f : Frame) : List Byte :=
  let body := [code, f.b1, f.b2, f.b3, f.b4, f.b5, f.b6, f.b7, f.b8, f.b9, f.b10]
  body ++ [crc8 body]

/-- A profile id: 1 to 32, and any other value is out of range (R2, 12.4). -/
def profileId? (b : Byte) : Option ProfileId :=
  if h : 1 ≤ b.toNat ∧ b.toNat ≤ 32 then some ⟨b.toNat - 1, by omega⟩ else none

/-- A channel number: 0 to 7, and any other value is out of range (12.4). -/
def channelId? (b : Byte) : Option ChannelId :=
  if h : b.toNat < 8 then some ⟨b.toNat, h⟩ else none

/-- The id of a profile as replies carry it (12.4). -/
def idOf (p : ProfileId) : Nat := p.val + 1

/-- A version selector (12.4). -/
inductive VersionSelector where
  | live | draft | draining
  deriving DecidableEq, Repr

/-- The coding of the version selector (12.4). -/
def versionSelector? (b : Byte) : Option VersionSelector :=
  if b = 1 then some .live else if b = 2 then some .draft else if b = 3 then some .draining else none

/-- The sequence that a phase position byte names: bit 6 (12.4). -/
def positionSeq (b : Byte) : Seq := if b.getLsbD 6 then .release else .energize

/-- The index that a phase position byte names: bits 2..0 (12.4). -/
def positionIndex (b : Byte) : Nat := b.toNat % 8

/-- The largest count of a sequence (R29, R36). -/
def maxCount : Seq → Nat
  | .energize => Config.maxEnergize
  | .release => Config.maxRelease

/-! ### Reserved bits (R195) -/

/-- The bits of the parameter bytes that a field group's layout names (12.4). A group that is none of SET_FIELDS' has no
layout and names none (notes/assumptions/19.md). -/
def fieldBlockBits (group : Byte) : Frame :=
  if group = 3 then { b4 := 0xFF, b5 := 0xFF, b6 := 0xFF, b7 := 0xFF, b8 := 0xFF, b9 := 0x0F }
  else if group = 4 then { b4 := 0xFF, b5 := 0x9F, b6 := 0xFF, b7 := 0xFF, b8 := 0xFF, b9 := 0xFF }
  else if group = 5 then { b4 := 0x80, b5 := 0xFF, b6 := 0xFF, b7 := 0xFF, b8 := 0xFF }
  else {}

/-- The bits of bytes 2 to 10 that a command's layout names; every other bit is reserved (R195, 12.5, 12.6, 12.8). -/
def namedBits (f : Frame) : Command → Frame
  | .openDraft => { b2 := 0xFF }
  | .discardDraft => { b2 := 0xFF }
  | .commit => { b2 := 0xFF }
  | .retire => { b2 := 0xFF }
  | .readTableMap => { b2 := 0xFF }
  | .readProfile => { b2 := 0xFF, b3 := 0xFF, b4 := 0xFF }
  | .clearWithheld => { b2 := 0xFF }
  | .setPhase =>
    { b2 := 0xFF, b3 := 0x47, b4 := 0xC7, b5 := 0x03, b6 := 0xFF, b7 := 0xFF, b8 := 0xFF, b9 := 0x83, b10 := 0xFF }
  | .insertPhase =>
    { b2 := 0xFF, b3 := 0x47, b4 := 0xC7, b5 := 0x03, b6 := 0xFF, b7 := 0xFF, b8 := 0xFF, b9 := 0x83, b10 := 0xFF }
  | .deletePhase => { b2 := 0xFF, b3 := 0x47 }
  | .setFields => { fieldBlockBits f.b3 with b2 := 0xFF, b3 := 0xFF }
  | .readPhase => { b2 := 0xFF, b3 := 0xFF, b4 := 0x47 }
  | .readPool => {}
  | .checkDraft => { b2 := 0xFF }
  | .bind => { b2 := 0xFF, b3 := 0xFF }
  | .unbind => { b2 := 0xFF }
  | .setChannel => { b2 := 0xFF, b3 := 0x83 }
  | .readChannel => { b2 := 0xFF, b3 := 0xFF }
  | .actuate => { b2 := 0xFF }
  | .release => { b2 := 0xFF }
  | .readOutcome => { b2 := 0xFF, b3 := 0xFF }
  | .readFaults => { b2 := 0xFF }
  | .clearFaults => { b2 := 0xFF }
  | .setFaultMask => { b2 := 0x3F, b3 := 0x03 }
  | .arm => {}
  | .disarm => {}
  | .safeStop => {}
  | .leaveSafe => {}
  | .softReset => {}
  | .storeOpen => {}
  | .storeClose => {}
  | .storeWriteProfile => { b2 := 0xFF }
  | .storeWriteMap => { b2 := 0x01 }
  | .storeLock => {}
  | .storeQuery => { b2 := 0xFF }
  | .nop => {}

/-- Whether every bit of a byte outside the named ones is 0. -/
def onlyNamed (b named : Byte) : Bool := b &&& ~~~named == 0

/-- Whether every reserved bit of a command's frame is 0: bits 7..4 of byte 1, and every bit of bytes 2 to 10 that its layout
does not name (R195). -/
def reservedClear (c : Command) (f : Frame) : Bool :=
  let m := namedBits f c
  onlyNamed f.b1 0x0F && onlyNamed f.b2 m.b2 && onlyNamed f.b3 m.b3 && onlyNamed f.b4 m.b4 && onlyNamed f.b5 m.b5 &&
    onlyNamed f.b6 m.b6 && onlyNamed f.b7 m.b7 && onlyNamed f.b8 m.b8 && onlyNamed f.b9 m.b9 && onlyNamed f.b10 m.b10

/-! ### The phase entry block (12.4) -/

/-- The coding of the phase kinds (12.4). -/
def kindOfCode (n : Nat) : Option PhaseKind :=
  if n = 1 then some .rampCurrent else if n = 2 then some .holdCurrent else if n = 3 then some .driveDuty
  else if n = 4 then some .fastDecay else if n = 5 then some .coast else none

/-- The coding of the phase kinds (12.4). -/
def kindCode : PhaseKind → Nat
  | .rampCurrent => 1
  | .holdCurrent => 2
  | .driveDuty => 3
  | .fastDecay => 4
  | .coast => 5

/-- Whether the part keeps an entry's content: every item in its range (R27). -/
def PhaseEntry.kept (e : PhaseEntry) : Bool :=
  (if e.kind = .driveDuty then decide (e.level ≤ 255) else decide (e.level ≤ 1023)) && decide (e.duration ≤ 60000) &&
    (match e.start with
      | none => true
      | some v => decide (e.kind = .rampCurrent) && decide (v ≤ 1023))

/-- The entry that a request carries at b4 to b10, if the part keeps it (R27, 12.4). -/
def entryOf (f : Frame) : Option PhaseEntry :=
  match kindOfCode (f.b4.toNat % 8) with
  | none => none
  | some kind =>
    let e : PhaseEntry :=
      { kind := kind
        level := word16 f.b5 f.b6 % 1024
        duration := word16 f.b7 f.b8
        start := if f.b9.getLsbD 7 then some (word16 f.b9 f.b10 % 1024) else none
        hit := f.b4.getLsbD 7
        motion := f.b4.getLsbD 6 }
    if e.kept then some e else none

/-- A start level as two bytes: bit 15 when present, and 0 when absent (R197, 12.4). -/
def startWord : Option Nat → Nat
  | none => 0
  | some v => 32768 + v

/-- The reply data of READ_PHASE: the entry, and the sequence's count in bits 5..3 of its first byte (12.4, R41). -/
def entryData (e : PhaseEntry) (count : Nat) : ReplyData :=
  { b4 := byteOf (bit e.hit * 128 + bit e.motion * 64 + count * 8 + kindCode e.kind)
    b5 := hiByte e.level, b6 := loByte e.level
    b7 := hiByte e.duration, b8 := loByte e.duration
    b9 := hiByte (startWord e.start), b10 := loByte (startWord e.start) }

/-! ### The field blocks (12.4) -/

/-- Whether a value lies between two bounds. -/
def within (lo v hi : Nat) : Bool := decide (lo ≤ v) && decide (v ≤ hi)

/-- A version's fields with the TIMING group that a request carries, if every value is in range (R28, R38). -/
def timingOf (f : Frame) (old : Fields) : Option Fields :=
  let minOn := word16 f.b4 f.b5
  let holdCap := word16 f.b6 f.b7
  let tolerance := f.b8.toNat
  let threshold := f.b9.toNat % 16
  if within 0 minOn 20000 && within 1 holdCap 6000 && within 0 tolerance 50 && within 0 threshold 15 then
    some { old with minOn := minOn, holdCap := holdCap, hitTolerance := tolerance, failureThreshold := threshold }
  else none

/-- A version's fields with the MOTION group that a request carries, if every value that is not marked absent is in range
(R28, R38, R39). -/
def motionOf (f : Frame) (old : Fields) : Option Fields :=
  let threshold := if f.b4.getLsbD 7 then some (f.b4.toNat % 128) else none
  let persistence := f.b5.toNat % 32
  let travel := if f.b5.getLsbD 7 then some { lo := word16 f.b6 f.b7, hi := word16 f.b8 f.b9 : Window } else none
  if threshold.all (within 1 · 100) && within 2 persistence 30 &&
      travel.all (fun w => within 1 w.lo 60000 && within 1 w.hi 60000) then
    some { old with dipThreshold := threshold, dipPersistence := persistence, travelWindow := travel }
  else none

/-- A version's fields with the RESISTANCE group that a request carries, if every value that is not marked absent is in range
(R28, R38, R39). -/
def resistanceOf (f : Frame) (old : Fields) : Option Fields :=
  let window := if f.b4.getLsbD 7 then some { lo := word16 f.b5 f.b6, hi := word16 f.b7 f.b8 : Window } else none
  if window.all (fun w => within 1 w.lo 65535 && within 1 w.hi 65535) then
    some { old with resistanceWindow := window }
  else none

/-- A version's fields with the group replaced that a SET_FIELDS names, if its group and its values are in range (R38). -/
def fieldsOf (f : Frame) (old : Fields) : Option Fields :=
  if f.b3 = 3 then timingOf f old
  else if f.b3 = 4 then motionOf f old
  else if f.b3 = 5 then resistanceOf f old
  else none

/-- The TIMING block of a reply (12.4). -/
def timingData (v : Fields) : ReplyData :=
  { b4 := hiByte v.minOn, b5 := loByte v.minOn, b6 := hiByte v.holdCap, b7 := loByte v.holdCap,
    b8 := byteOf v.hitTolerance, b9 := byteOf v.failureThreshold }

/-- The bounds of a window as replies carry them: 0 where it is absent (R197). -/
def windowBounds : Option Window → Nat × Nat
  | none => (0, 0)
  | some w => (w.lo, w.hi)

/-- The MOTION block of a reply (12.4, R197). -/
def motionData (v : Fields) : ReplyData :=
  let w := windowBounds v.travelWindow
  { b4 := byteOf (match v.dipThreshold with | none => 0 | some t => 128 + t)
    b5 := byteOf (bit v.travelWindow.isSome * 128 + v.dipPersistence)
    b6 := hiByte w.1, b7 := loByte w.1, b8 := hiByte w.2, b9 := loByte w.2 }

/-- The RESISTANCE block of a reply (12.4, R197). -/
def resistanceData (v : Fields) : ReplyData :=
  let w := windowBounds v.resistanceWindow
  { b4 := byteOf (bit v.resistanceWindow.isSome * 128)
    b5 := hiByte w.1, b6 := loByte w.1, b7 := hiByte w.2, b8 := loByte w.2 }

/-! ### Profile replies (12.5) -/

/-- The coding of the profile states (12.5). -/
def profileStateCode : ProfileState → Nat
  | .absent => 0
  | .new => 1
  | .live => 2

/-- The ENTRY group of READ_PROFILE (R20, 12.5). -/
def profileEntryData (e : Profile) : ReplyData :=
  { b4 := byteOf (bit e.live.isSome * 128 + bit e.draft.isSome * 64 + bit e.draining.isSome * 32 + bit e.withheld * 16 +
      profileStateCode e.state)
    b5 := hiByte e.highWater, b6 := loByte e.highWater, b7 := byteOf e.bindingCount, b8 := byteOf e.failureRun }

/-- The SHAPE group of READ_PROFILE; a draft has generation and engagement count 0 (R20, 12.5). -/
def shapeData (gen engaged : Nat) (sh : Shape) : ReplyData :=
  { b4 := hiByte gen, b5 := loByte gen, b6 := byteOf engaged, b7 := byteOf sh.energize.length,
    b8 := byteOf sh.release.length }

/-- The version that a selector names, with its generation and engagement count (R20, R41). -/
def Profile.select (e : Profile) : VersionSelector → Option (Nat × Nat × Shape)
  | .live => e.live.map fun v => (v.gen, v.engaged, v.shape)
  | .draft => e.draft.map fun d => (0, 0, d)
  | .draining => e.draining.map fun v => (v.gen, v.engaged, v.shape)

/-- A phase position byte of a reply: bit 7 when a position is given (12.4). -/
def positionByte : Option (Seq × Nat) → Byte
  | none => 0
  | some (.energize, i) => byteOf (128 + i)
  | some (.release, i) => byteOf (192 + i)

/-! ### Channel replies (12.6, 12.7) -/

/-- The coding of the activity states (12.4). -/
def activityCode : Activity → Nat
  | .unbound => 0
  | .ready => 1
  | .energizing => 2
  | .holding => 3
  | .releasing => 4
  | .faulted => 5

/-- The coding of the trigger source (12.4). -/
def triggerCode : TriggerSource → Nat
  | .pin => 1
  | .link => 2
  | .either => 3

/-- The coding of the trigger source (12.4). -/
def triggerOfCode (n : Nat) : Option TriggerSource :=
  if n = 1 then some .pin else if n = 2 then some .link else if n = 3 then some .either else none

/-- A binding as replies carry it: 0 for none (12.6). -/
def bindingCode : Option ProfileId → Nat
  | none => 0
  | some p => idOf p

/-- A time in regulation periods, in units of 0.1 ms rounded down, saturating at 65535 (R71, R101). -/
def reportedTime (periods : Nat) : Nat := min Config.max16 (periods / 2)

/-- The SETUP part of READ_CHANNEL (R71, 12.6). -/
def setupData (s : State) (ch : ChannelId) : ReplyData :=
  let c := s.channel ch
  { b4 := byteOf (bindingCode c.binding)
    b5 := byteOf (bit c.unbindPending * 128 + bit c.openLoadCheck * 64 + bit c.edgeArmed * 32 +
      bit (decide (c.ctlSeen = .asserted)) * 16 + bit c.unread * 8 + triggerCode c.trigger)
    b6 := byteOf (activityCode (s.activity ch)) }

/-- The ACTIVITY part of READ_CHANNEL (R71, 12.6): on a channel that is not driving everything but the state reads 0. -/
def activityData (s : State) (ch : ChannelId) : ReplyData :=
  match (s.channel ch).running with
  | none => { b4 := byteOf (activityCode (s.activity ch)) }
  | some a =>
    { flags := replyFlags (decide (a.origin = .link)) (decide (s.kindOf a.profile a.gen = .draining)) a.heldFrom.isSome
      nibble := BitVec.ofNat 4 (a.pos % 8)
      b4 := byteOf (a.profile.val * 8 + activityCode (s.activity ch))
      b5 := hiByte a.gen, b6 := loByte a.gen
      b7 := hiByte (reportedTime a.time), b8 := loByte (reportedTime a.time)
      b9 := hiByte (reportedTime a.phaseTime), b10 := loByte (reportedTime a.phaseTime) }

/-- The coding of the verdicts (12.7). -/
def verdictCode : Verdict → Nat
  | .clean => 1
  | .flawed => 2
  | .aborted => 3

/-- The coding of the end causes, in the order of R117 (12.7). -/
def causeCode : EndCause → Nat
  | .releasedPin => 1
  | .releasedLink => 2
  | .selfTimed => 3
  | .holdExpired => 4
  | .disarmed => 5
  | .overcurrent => 6
  | .suspendedSupply => 7
  | .suspendedTemp => 8
  | .safeStop => 9
  | .softReset => 10

/-- The findings field (12.7). -/
def findingsCode (fs : List Finding) : Nat :=
  bit (decide (Finding.noMotion ∈ fs)) * 32 + bit (decide (Finding.travelDrift ∈ fs)) * 16 +
    bit (decide (Finding.hitShort ∈ fs)) * 8 + bit (decide (Finding.resLow ∈ fs)) * 4 +
    bit (decide (Finding.resHigh ∈ fs)) * 2 + bit (decide (Finding.earlyReleaseHeld ∈ fs))

/-- The SUMMARY part of READ_OUTCOME, with the unread flag as it stood before the read (R120, 12.7). -/
def summaryData (record : Option OutcomeRecord) (unread : Bool) : ReplyData :=
  match record with
  | none => {}
  | some r =>
    let field := r.profile.val * 2048 + bit (decide (r.origin = .link)) * 1024 + causeCode r.cause * 64 +
      findingsCode r.findings
    { flags := replyFlags true unread r.previousUnread
      nibble := BitVec.ofNat 4 (bit (decide (r.versionKind = .draining)) * 8 + verdictCode r.verdict)
      b4 := byteOf r.number
      b5 := hiByte r.gen, b6 := loByte r.gen
      b7 := hiByte r.duration, b8 := loByte r.duration
      b9 := hiByte field, b10 := loByte field }

/-- The MEASURES part of READ_OUTCOME, with the unread flag as it stood before the read (R120, R197, 12.7). -/
def measuresData (record : Option OutcomeRecord) (unread : Bool) : ReplyData :=
  match record with
  | none => {}
  | some r =>
    let m := r.motion.getD { travel := 0, peak := 0, valley := 0 }
    let resistance := r.resistance.getD 0
    { flags := replyFlags true unread r.resistance.isSome
      nibble := BitVec.ofNat 2 (m.peak / 256) ++ BitVec.ofNat 2 (m.valley / 256)
      b4 := byteOf r.number
      b5 := hiByte m.travel, b6 := loByte m.travel
      b7 := byteOf m.peak, b8 := byteOf m.valley
      b9 := hiByte resistance, b10 := loByte resistance }

/-! ### Fault replies (12.8) -/

/-- The set of channels whose OVERCURRENT latch is set. -/
def State.overcurrentSet (s : State) : Byte := channelSet fun ch => (s.chFault ch).overcurrent

/-- The set of channels whose OPEN_LOAD latch is set. -/
def State.openLoadSet (s : State) : Byte := channelSet fun ch => (s.chFault ch).openLoad

/-- The device flags: bit 0 OVT, bit 1 UVM, bit 2 COMM (12.8). -/
def deviceFlags (u : FaultUnit) : Nat := bit u.ovt + bit u.uvm * 2 + bit u.comm * 4

/-- The masks as one byte (12.8). -/
def masksCode (m : Masks) : Nat :=
  bit m.overcurrent + bit m.openLoad * 2 + bit m.ovt * 4 + bit m.uvm * 8 + bit m.comm * 16 + bit m.withheld * 32

/-- The masks that SET_FAULT_MASK carries in b2 (12.8). -/
def masksOf (b : Byte) : Masks :=
  { overcurrent := b.getLsbD 0, openLoad := b.getLsbD 1, ovt := b.getLsbD 2, uvm := b.getLsbD 3, comm := b.getLsbD 4,
    withheld := b.getLsbD 5 }

/-- The coding of the stretch setting (12.8). -/
def stretchCode : StretchSetting → Nat
  | .zero => 0
  | .ms250 => 1
  | .ms500 => 2
  | .ms1000 => 3

/-- The stretch setting that SET_FAULT_MASK carries in bits 1..0 of b3 (12.8). -/
def stretchOf (b : Byte) : StretchSetting :=
  if b.toNat % 4 = 0 then .zero else if b.toNat % 4 = 1 then .ms250 else if b.toNat % 4 = 2 then .ms500 else .ms1000

/-- The stretch time remaining in ms, rounded up; 0 when the timer is stopped. Twenty periods are 1 ms (R148). -/
def stretchMs : Option Nat → Nat
  | none => 0
  | some n => (n + 19) / 20

/-- The FLAGS part of READ_FAULTS (R148, 12.8). -/
def faultFlagsData (s : State) : ReplyData :=
  { b4 := s.overcurrentSet, b5 := s.openLoadSet
    b6 := byteOf (deviceFlags s.faults + bit s.withheldAny * 8 + bit s.nFaultAsserted * 16)
    b7 := byteOf (masksCode s.faults.masks), b8 := byteOf (stretchCode s.faults.stretch)
    b9 := hiByte (stretchMs s.faults.timer), b10 := loByte (stretchMs s.faults.timer) }

/-- A temperature as a signed two-byte field (12.8). -/
def tempWord (t : Int) : Nat := (BitVec.ofInt 16 t).toNat

/-- The MONITOR part of READ_FAULTS (R148, 12.8). -/
def monitorData (s : State) : ReplyData :=
  { b4 := byteOf (bit s.monitor.uvm + bit s.monitor.ovt * 2 + bit s.monitor.progOk * 4)
    b5 := hiByte s.monitor.vs, b6 := loByte s.monitor.vs
    b7 := hiByte (tempWord s.monitor.temp), b8 := loByte (tempWord s.monitor.temp)
    b9 := channelSet fun ch => decide ((s.chFault ch).pull = .outOfBand) }

/-! ### Store replies (12.8) -/

/-- The coding of a slot: 1 to 32 a profile slot, 64 the map slot, 65 the lock slot (12.8). -/
def slotCode (slot : Slot) : Nat := if slot.val < 32 then slot.val + 1 else slot.val + 32

/-- The coding of a slot (12.8). -/
def slotOfCode (b : Byte) : Option Slot :=
  if h : 1 ≤ b.toNat ∧ b.toNat ≤ 32 then some ⟨b.toNat - 1, by omega⟩
  else if b = 64 then some 32 else if b = 65 then some 33 else none

/-- The slot of a profile (R166). -/
def profileSlot (p : ProfileId) : Slot := ⟨p.val, by omega⟩

/-- The map slot (R166). -/
def mapSlot : Slot := 32

/-- The lock slot (R166). -/
def lockSlot : Slot := 33

/-- The coding of a copy's state; 3 where the slot has no such copy (12.8). -/
def copyStateCode : Option CopyState → Nat
  | some .blank => 0
  | some .valid => 1
  | some .spoiled => 2
  | none => 3

/-- The coding of the session state (12.8). -/
def sessionCode : Session → Nat
  | .closed => 0
  | .isOpen => 1
  | .closing => 2

/-- The write in flight as replies carry it: its slot and its copy, 0 and 0 for none (12.8). -/
def inFlightCode : Option Write → Nat × Nat
  | none => (0, 0)
  | some w => (slotCode w.slot, w.copy)

/-- The last write result as replies carry it: its coding, its slot and its copy (12.8). -/
def resultCodes : WriteResult → Nat × Nat × Nat
  | .none => (0, 0, 0)
  | .done slot copy => (1, slotCode slot, copy)
  | .abandoned slot copy => (2, slotCode slot, copy)

/-! ### The reply frame (12.2) -/

/-- The value of a result code (12.9). -/
def resultValue : ResultCode → Nat
  | .ok => 0
  | .accepted => 1
  | .frameRejected => 2
  | .noPrior => 3
  | .notReady => 4
  | .modeRefused => 5
  | .unknownCommand => 6
  | .badTarget => 7
  | .badParam => 8
  | .noProfile => 9
  | .noVersion => 10
  | .noDraft => 11
  | .draftExists => 12
  | .poolFull => 13
  | .seqFull => 14
  | .checkFailed => 15
  | .drainPending => 16
  | .genLimit => 17
  | .inUse => 18
  | .withheld => 19
  | .busy => 20
  | .wrongSource => 21
  | .unbound => 22
  | .slotExhausted => 23
  | .unbindPending => 24
  | .faulted => 25
  | .notActive => 26
  | .lineActive => 27
  | .storeClosed => 28
  | .storeBusy => 29
  | .locked => 30
  | .lowSupply => 31

/-- The tag field of a reply: 0 where the tag is absent (R196). -/
def tagField : Option (BitVec 4) → Nat
  | none => 0
  | some t => t.toNat

/-- Bytes 1 to 10 of a reply (R196, 12.2). -/
def replyBytes (r : Reply) : List Byte :=
  [byteOf (r.data.flags.toNat * 32 + resultValue r.result), r.code, byteOf (r.data.nibble.toNat * 16 + tagField r.tag),
   r.data.b4, r.data.b5, r.data.b6, r.data.b7, r.data.b8, r.data.b9, r.data.b10]

/-- The twelve bytes shifted out in a frame: a status byte, the prepared reply and a check byte over the two (R190). -/
def transmitFrame (status : Byte) (r : Reply) : Vector Byte 12 :=
  let body := replyBytes r
  #v[status, body.getD 0 0, body.getD 1 0, body.getD 2 0, body.getD 3 0, body.getD 4 0, body.getD 5 0, body.getD 6 0,
     body.getD 7 0, body.getD 8 0, body.getD 9 0, crc8 (status :: body)]

end Sys2Proof.Machine
end

