-- ==== Sys2Proof/Decode.lean ====
section
/-! DEFINITION. How bits become commands. The opcode table gives no row any bits, so no word spells a command there
(notes/assumptions/31.md). What the manual does encode is the link's frames: `decodeFrame` reads a frame's bits as the link
command they carry, and `frameOf` writes the bits of a link command (R184 to R188, chapter 12). -/

namespace Sys2Proof

/-- The command that a word spells by the bits of the opcode table: the table gives its rows none. -/
def decodeTableWord (_nbits _w : Nat) : Option Instr := none

/-- The row of a link command, with the frame it came in. -/
def linkInstr (c : Machine.Command) (f : Frame) : Instr :=
  match c with
  | .nop => .nop f
  | .openDraft => .openDraft f
  | .discardDraft => .discardDraft f
  | .commit => .commit f
  | .retire => .retire f
  | .readTableMap => .readTableMap f
  | .readProfile => .readProfile f
  | .clearWithheld => .clearWithheld f
  | .setPhase => .setPhase f
  | .insertPhase => .insertPhase f
  | .deletePhase => .deletePhase f
  | .setFields => .setFields f
  | .readPhase => .readPhase f
  | .readPool => .readPool f
  | .checkDraft => .checkDraft f
  | .bind => .bind f
  | .unbind => .unbind f
  | .setChannel => .setChannel f
  | .readChannel => .readChannel f
  | .actuate => .actuate f
  | .release => .release f
  | .readOutcome => .readOutcome f
  | .readFaults => .readFaults f
  | .clearFaults => .clearFaults f
  | .setFaultMask => .setFaultMask f
  | .arm => .arm f
  | .disarm => .disarm f
  | .safeStop => .safeStop f
  | .leaveSafe => .leaveSafe f
  | .softReset => .softReset f
  | .storeOpen => .storeOpen f
  | .storeClose => .storeClose f
  | .storeWriteProfile => .storeWriteProfile f
  | .storeWriteMap => .storeWriteMap f
  | .storeLock => .storeLock f
  | .storeQuery => .storeQuery f

/-- Bytes 1 to 10 of a frame's twelve. -/
def frameOfBytes (bs : List Byte) : Frame :=
  { b1 := bs.getD 1 0, b2 := bs.getD 2 0, b3 := bs.getD 3 0, b4 := bs.getD 4 0, b5 := bs.getD 5 0, b6 := bs.getD 6 0,
    b7 := bs.getD 7 0, b8 := bs.getD 8 0, b9 := bs.getD 9 0, b10 := bs.getD 10 0 }

/-- The link row that the end of a frame is, from the bits received in it: FRAME_REJECTED for its length or its check, and
otherwise the command its byte 0 names, or UNKNOWN_COMMAND (R185 to R188). Total. -/
def decodeFrame (bits : List Bool) : Instr :=
  if Machine.frameAccepted bits then
    let bs := Machine.bitsBytes bits
    match Machine.commandOfCode (bs.getD 0 0) with
    | some c => linkInstr c (frameOfBytes bs)
    | none => .unknownCommand (bs.getD 0 0) (frameOfBytes bs)
  else .frameRejected bits

/-- The code in byte 0 of a link row's frame, and the bytes that follow it; none for a row that is no frame's end. -/
def linkParts : Instr → Option (Byte × Frame)
  | .openDraft f => some (Machine.commandCode .openDraft, f)
  | .discardDraft f => some (Machine.commandCode .discardDraft, f)
  | .commit f => some (Machine.commandCode .commit, f)
  | .retire f => some (Machine.commandCode .retire, f)
  | .readTableMap f => some (Machine.commandCode .readTableMap, f)
  | .readProfile f => some (Machine.commandCode .readProfile, f)
  | .clearWithheld f => some (Machine.commandCode .clearWithheld, f)
  | .setPhase f => some (Machine.commandCode .setPhase, f)
  | .insertPhase f => some (Machine.commandCode .insertPhase, f)
  | .deletePhase f => some (Machine.commandCode .deletePhase, f)
  | .setFields f => some (Machine.commandCode .setFields, f)
  | .readPhase f => some (Machine.commandCode .readPhase, f)
  | .readPool f => some (Machine.commandCode .readPool, f)
  | .checkDraft f => some (Machine.commandCode .checkDraft, f)
  | .bind f => some (Machine.commandCode .bind, f)
  | .unbind f => some (Machine.commandCode .unbind, f)
  | .setChannel f => some (Machine.commandCode .setChannel, f)
  | .readChannel f => some (Machine.commandCode .readChannel, f)
  | .actuate f => some (Machine.commandCode .actuate, f)
  | .release f => some (Machine.commandCode .release, f)
  | .readOutcome f => some (Machine.commandCode .readOutcome, f)
  | .readFaults f => some (Machine.commandCode .readFaults, f)
  | .clearFaults f => some (Machine.commandCode .clearFaults, f)
  | .setFaultMask f => some (Machine.commandCode .setFaultMask, f)
  | .arm f => some (Machine.commandCode .arm, f)
  | .disarm f => some (Machine.commandCode .disarm, f)
  | .safeStop f => some (Machine.commandCode .safeStop, f)
  | .leaveSafe f => some (Machine.commandCode .leaveSafe, f)
  | .softReset f => some (Machine.commandCode .softReset, f)
  | .storeOpen f => some (Machine.commandCode .storeOpen, f)
  | .storeClose f => some (Machine.commandCode .storeClose, f)
  | .storeWriteProfile f => some (Machine.commandCode .storeWriteProfile, f)
  | .storeWriteMap f => some (Machine.commandCode .storeWriteMap, f)
  | .storeLock f => some (Machine.commandCode .storeLock, f)
  | .storeQuery f => some (Machine.commandCode .storeQuery, f)
  | .nop f => some (Machine.commandCode .nop, f)
  | .unknownCommand code f => some (code, f)
  | .frameBegin => none
  | .frameRejected _ => none
  | .ctlAsserted _ => none
  | .ctlDeasserted _ => none
  | .nsafeAsserted => none
  | .nsafeDeasserted => none
  | .fullReset _ => none
  | .fullResetEnd _ _ => none
  | .loadProfileSlot => none
  | .loadMapSlot => none
  | .loadLockSlot => none
  | .uvmOnset _ => none
  | .uvmClears _ => none
  | .ovtOnset _ => none
  | .ovtClears _ => none
  | .progOkTrue _ => none
  | .progOkFalse _ => none
  | .storeWriteComplete => none
  | .regulationPeriod _ => none
  | .phaseEnd _ => none
  | .holdExpired _ => none
  | .minOnReached _ => none
  | .dipConfirmed _ => none
  | .resistanceSample _ => none
  | .openLoadLatchSet _ => none
  | .overcurrentTrip _ => none
  | .stretchExpired => none

/-- The bits of a link row's frame, in the order the link sends them; none for a row that is no frame's end (R184, 12.1). -/
def frameOf (i : Instr) : Option (List Bool) :=
  match i with
  | .frameRejected bits => some bits
  | i => (linkParts i).map fun e => Machine.bytesBits (Machine.frameBytes e.1 e.2)

end Sys2Proof
end

