-- ==== Sys2Proof/Machine/Diagnostics.lean ====
section
/-! DEFINITION. The diagnostic unit: what it does at a start, in a period, and when its search closes (Chapter 6), and the
findings and the verdict made from it. -/

namespace Sys2Proof.Machine

/-- The unit as the start of an actuation resets it (R106). -/
def Diag.start (v : Fields) : Diag :=
  { Diag.reset with search := if v.dipThreshold.isSome then .waiting else .off }

/-- Whether a period's current lies below a peak less the dip threshold (R108, R110). -/
def belowBy (peak threshold sensed : Nat) : Bool := decide (sensed + threshold < peak)

/-- A period of a MOTION phase, as the search takes it (R108, R110). `time` is the time into the actuation at its end. -/
def Diag.motionPeriod (u : Diag) (v : Fields) (time sensed : Nat) : Diag :=
  let threshold := v.dipThreshold.getD 0
  match u.search with
  | .waiting =>
    { u with search := .searching, peak := some sensed, dipCount := 0, candStart := none, candLow := none }
  | .searching =>
    let peak := u.peak.getD 0
    if belowBy peak threshold sensed then
      { u with
        dipCount := u.dipCount + 1
        candStart := if u.dipCount = 0 then some time else u.candStart
        candLow := if u.dipCount = 0 then some sensed else some (min (u.candLow.getD sensed) sensed) }
    else
      { u with dipCount := 0, candStart := none, candLow := none, peak := some (max peak sensed) }
  | .inDip =>
    if belowBy (u.dipPeak.getD 0) threshold sensed then
      { u with valley := some (min (u.valley.getD sensed) sensed) }
    else { u with search := .found }
  | .off => u
  | .found => u
  | .closed => u

/-- The hit check, in the last period of the HIT-marked phase; a result once made stands (R113). -/
def Diag.hitPeriod (u : Diag) (v : Fields) (ph : PhaseEntry) (phaseTime sensed : Nat) : Diag :=
  if ph.hit && decide (phaseTime = 2 * ph.duration) && decide (u.hit = .notJudged) then
    { u with hit := if sensed + v.hitTolerance < ph.level then .short else .met }
  else u

/-- A period's report to the unit (R107): the MOTION period and the hit check in an energize phase, nothing in a release
phase. `time` and `phaseTime` are the two times at the end of the period, `vs` what the monitor measured during it (R114). -/
def Diag.period (u : Diag) (v : Fields) (q : Seq) (ph : PhaseEntry) (time phaseTime sensed vs : Nat) : Diag :=
  match q with
  | .release => u
  | .energize =>
    let u := { u.hitPeriod v ph phaseTime sensed with supply := vs }
    if ph.motion then u.motionPeriod v time sensed else u

/-- Whether the last period raised the dip count to the dip persistence (R109). -/
def Diag.dipDue (u : Diag) (v : Fields) : Bool :=
  decide (u.search = .searching) && decide (0 < u.dipCount) && decide (v.dipPersistence ≤ u.dipCount)

/-- The dip is confirmed (R109). -/
def Diag.confirmDip (u : Diag) : Diag :=
  { u with search := .inDip, dipTime := u.candStart, dipPeak := u.peak, valley := u.candLow }

/-- Whether a phase is an open-ended HOLD_CURRENT phase of the energize sequence (R114). -/
def openHold (q : Seq) (ph : PhaseEntry) : Bool :=
  decide (q = .energize) && decide (ph.kind = .holdCurrent) && decide (ph.duration = 0)

/-- Whether the last period was the 400th of an open-ended hold and the sample is still to be taken (R114). -/
def Diag.sampleDue (u : Diag) (q : Seq) (ph : PhaseEntry) (phaseTime : Nat) : Bool :=
  openHold q ph && decide (phaseTime = Config.samplePeriod) && u.sample.isNone

/-- The coil resistance, in 0.1 Ω, from the applied duty, the sensed current and the supply voltage (R114). -/
def resistanceOfCoil (duty sensed vs : Nat) : Nat :=
  if sensed = 0 then Config.max16 else min Config.max16 (10 * duty * vs / (256 * sensed))

/-- The window's judgment of a sample (R115). -/
def judgeResistance (v : Fields) (sample : Nat) : ResistanceResult :=
  match v.resistanceWindow with
  | none => .notJudged
  | some w => if sample < w.lo then .low else if w.hi < sample then .high else .within

/-- The resistance is sampled and judged, with the VS of the period that made it due (R114, R115). -/
def Diag.takeSample (u : Diag) (v : Fields) (duty sensed : Nat) : Diag :=
  let sample := resistanceOfCoil duty sensed u.supply
  { u with sample := some sample, resistance := judgeResistance v sample }

/-- The motion finding of a search that confirmed a dip (R111). -/
def driftFinding (v : Fields) (dipTime : Nat) : MotionFinding :=
  match v.travelWindow with
  | none => .none
  | some w => if dipTime / 2 < w.lo ∨ w.hi < dipTime / 2 then .travelDrift else .none

/-- The motion search closes (R111). A search that is OFF does not, and one that is CLOSED is not closed again. -/
def Diag.close (u : Diag) (v : Fields) : Diag :=
  match u.search with
  | .off => u
  | .closed => u
  | .waiting => { u with search := .closed, motionFinding := .noMotion }
  | .searching => { u with search := .closed, motionFinding := .noMotion }
  | .inDip => { u with search := .closed, motionFinding := driftFinding v (u.dipTime.getD 0) }
  | .found => { u with search := .closed, motionFinding := driftFinding v (u.dipTime.getD 0) }

/-- Whether an energize position is the last MOTION-marked one of a shape (R111). -/
def lastMotion (sh : Shape) (pos : Nat) : Bool :=
  (sh.energize[pos]?.any fun e => e.motion) && !((sh.energize.drop (pos + 1)).any fun e => e.motion)

/-- Whether an end cause is an abrupt stop's (R99). -/
def EndCause.abrupt : EndCause → Bool
  | .overcurrent => true
  | .suspendedSupply => true
  | .suspendedTemp => true
  | .safeStop => true
  | .softReset => true
  | .releasedPin => false
  | .releasedLink => false
  | .selfTimed => false
  | .holdExpired => false
  | .disarmed => false

/-- The findings of an actuation, in the order of R116; an abrupt stop gives no motion finding (R112). -/
def findingsOf (u : Diag) (cause : EndCause) (earlyHeld : Bool) : List Finding :=
  (if cause.abrupt then []
    else match u.motionFinding with
      | .none => []
      | .noMotion => [.noMotion]
      | .travelDrift => [.travelDrift]) ++
  (if u.hit = .short then [.hitShort] else []) ++
  (match u.resistance with
    | .low => [.resLow]
    | .high => [.resHigh]
    | .within => []
    | .notJudged => []) ++
  (if earlyHeld then [.earlyReleaseHeld] else [])

/-- The verdict, from the end cause and the findings (R118). -/
def verdictOf (cause : EndCause) (findings : List Finding) : Verdict :=
  match cause with
  | .suspendedSupply => .aborted
  | .suspendedTemp => .aborted
  | .safeStop => .aborted
  | .softReset => .aborted
  | .overcurrent => .flawed
  | .releasedPin => judgeFindings findings
  | .releasedLink => judgeFindings findings
  | .selfTimed => judgeFindings findings
  | .holdExpired => judgeFindings findings
  | .disarmed => judgeFindings findings
where
  /-- FLAWED with any finding other than EARLY_RELEASE_HELD, and otherwise CLEAN (R118). -/
  judgeFindings (fs : List Finding) : Verdict :=
    if fs.any fun f => decide (f ≠ .earlyReleaseHeld) then .flawed else .clean

/-- Travel time, peak and valley, where a dip was confirmed (R117). DESIGN CHOICE: a travel time beyond 65535, which R117 has no
rule for, saturates there (notes/assumptions/38.md). -/
def Diag.measures (u : Diag) : Option MotionMeasures :=
  match u.dipTime with
  | none => none
  | some t => some { travel := min Config.max16 (t / 2), peak := u.dipPeak.getD 0, valley := u.valley.getD 0 }

end Sys2Proof.Machine
end

