-- ==== Sys2Proof/Machine/Actuation.lean ====
section
/-! DEFINITION. An actuation from its start to its end (Chapter 5): the start step, the stage's orders, the moves of the
cursor, releases, abrupt stops and the end step. -/

namespace Sys2Proof.Machine

/-- The record of a channel with its running actuation replaced. -/
def State.setRunning (s : State) (ch : ChannelId) (a : Actuation) : State :=
  s.setChannel ch { s.channel ch with running := some a }

/-- The pull current removed and the open-load window abandoned, as a channel stops being undriven with its check on
(R138, R139). -/
def State.removePull (s : State) (ch : ChannelId) : State :=
  s.setChFault ch { s.chFault ch with pull := .notRunning, window := 0 }

/-! ### The start (R78) -/

/-- The actuation that a start begins: cursor on energize position 0, both times 0, no note (R78, R92). -/
def startedActuation (p : ProfileId) (gen : Nat) (o : Origin) (sensed : Nat) : Actuation :=
  { profile := p, gen := gen, origin := o, seq := .energize, pos := 0, time := 0, phaseTime := 0, heldFrom := none,
    noted := none, earlyHeld := false, entryCurrent := sensed }

/-- A start: the table engages the live version of the profile the channel is bound to, or refuses (R7, R78). The answer is
the state after it, with the profile and the generation engaged. -/
def State.start (s : State) (ch : ChannelId) (o : Origin) : Option (State × ProfileId × Nat) :=
  match (s.channel ch).binding with
  | none => none
  | some p =>
    match s.engage p with
    | none => none
    | some (t, gen) =>
      let a := startedActuation p gen o (t.stage ch).sensed
      let t := t.setChannel ch { t.channel ch with running := some a, edgeArmed := false }
      let t := t.setDiag ch (Diag.start (t.shapeOf a).fields)
      some (t.removePull ch, p, gen)

/-! ### What falls due to the diagnostic unit at a period's end -/

/-- The dip confirmed, where the last period made it due (R109). -/
def State.takeDip (s : State) (ch : ChannelId) (a : Actuation) : State :=
  if (s.diag ch).dipDue (s.shapeOf a).fields then s.setDiag ch (s.diag ch).confirmDip else s

/-- The resistance sampled, where the last period made it due (R114). -/
def State.takeSample (s : State) (ch : ChannelId) (a : Actuation) : State :=
  if (s.phaseOf a).any fun ph => (s.diag ch).sampleDue a.seq ph a.phaseTime then
    s.setDiag ch ((s.diag ch).takeSample (s.shapeOf a).fields (s.stage ch).duty (s.stage ch).sensed)
  else s

/-- The unit's own steps that the last period made due, taken. They come before the channel leaves the phase (R107). -/
def State.settleUnit (s : State) (ch : ChannelId) : State :=
  match (s.channel ch).running with
  | none => s
  | some a => (s.takeDip ch a).takeSample ch a

/-- The motion search of a channel closed (R111). -/
def State.closeSearch (s : State) (ch : ChannelId) (a : Actuation) : State :=
  s.setDiag ch ((s.diag ch).close (s.shapeOf a).fields)

/-! ### The end (R64, R101) -/

/-- The stage enters OFF, and applies no drive (R84, R99). -/
def State.stageOff (s : State) (ch : ChannelId) : State :=
  s.setStage ch { s.stage ch with mode := .off, duty := 0 }

/-- The number of the next outcome record (R119). -/
def nextNumber : Option OutcomeRecord → Nat
  | none => 0
  | some r => (r.number + 1) % 256

/-- The outcome record of an actuation that ends (R101, R117, R119). `kind` is the table's answer. -/
def outcomeOf (c : Channel) (a : Actuation) (u : Diag) (cause : EndCause) (kind : VersionKind) : OutcomeRecord :=
  let findings := findingsOf u cause a.earlyHeld
  { number := nextNumber c.outcome, profile := a.profile, gen := a.gen, versionKind := kind, origin := a.origin,
    cause := cause, findings := findings, verdict := verdictOf cause findings, duration := reportedDuration a.time,
    motion := u.measures, resistance := u.sample, previousUnread := c.unread }
where
  /-- The time into the actuation in 0.1 ms, the half-unit dropped, saturating at 65535 (R101). -/
  reportedDuration (periods : Nat) : Nat := min Config.max16 (periods / 2)

/-- The channel settles its record: an unbind-pending binding is removed and the edge-armed flag set from the line where the
channel becomes READY (R64, R73). -/
def State.settleRecord (s : State) (ch : ChannelId) : State :=
  let s := if (s.channel ch).unbindPending then
    (s.removeBinding ch).setChannel ch { (s.removeBinding ch).channel ch with unbindPending := false } else s
  s.settleEdge ch

/-- The end step of an actuation, whole (R101): what the unit has due is taken, stage OFF, the unit's findings, the outcome record and its verdict, the
disengagement with the verdict, the record and the unread flag, and the channel's settling (R64). -/
def State.endActuation (s : State) (ch : ChannelId) (cause : EndCause) : State :=
  match (s.channel ch).running with
  | none => s
  | some a =>
    let s := (s.settleUnit ch).stageOff ch
    let record := outcomeOf (s.channel ch) a (s.diag ch) cause (s.kindOf a.profile a.gen)
    let s := s.disengage a.profile a.gen record.verdict
    let s := s.setChannel ch { s.channel ch with running := none, outcome := some record, unread := true }
    s.settleRecord ch

/-- An abrupt stop: a driving channel ends its actuation with the stop's cause, and its release sequence is skipped (R99).
The cause replaces any end cause noted. -/
def State.abruptStop (s : State) (cause : EndCause) (ch : ChannelId) : State := s.endActuation ch cause

/-- Every driving channel stopped abruptly (R99). -/
def State.stopAll (s : State) (cause : EndCause) : State :=
  allChannels.foldl (fun s ch => s.abruptStop cause ch) s

/-! ### Moves of the cursor (R83) -/

/-- The cursor moves to a phase: the time into the phase is 0, and the sensed current is what an unstarted ramp begins from
(R82, R83, R86). -/
def State.moveTo (s : State) (ch : ChannelId) (a : Actuation) (q : Seq) (pos : Nat) : State :=
  s.setRunning ch { a with seq := q, pos := pos, phaseTime := 0, entryCurrent := (s.stage ch).sensed }

/-- The cursor leaves the energize sequence with an end cause: the search closes, the held release and its note go, and the
cursor moves to release entry 0, or the actuation ends where there is none (R83, R90, R91, R94). -/
def State.enterRelease (s : State) (ch : ChannelId) (cause : EndCause) : State :=
  match (s.channel ch).running with
  | none => s
  | some a =>
    let s := s.settleUnit ch
    let s := s.closeSearch ch a
    if (s.shapeOf a).release.isEmpty then s.endActuation ch cause
    else s.moveTo ch { a with noted := some cause, heldFrom := none } .release 0

/-- The phase at the cursor ends (R83): the next entry of its sequence, the release sequence after a self-timed end (R91), or
the end of the actuation. -/
def State.endPhase (s : State) (ch : ChannelId) : State :=
  match (s.channel ch).running with
  | none => s
  | some a =>
    let sh := s.shapeOf a
    match a.seq with
    | .energize =>
      if a.pos + 1 < sh.energize.length then
        let s := s.settleUnit ch
        let s := if lastMotion sh a.pos then s.closeSearch ch a else s
        s.moveTo ch a .energize (a.pos + 1)
      else s.enterRelease ch .selfTimed
    | .release =>
      if a.pos + 1 < sh.release.length then s.moveTo ch a .release (a.pos + 1)
      else s.endActuation ch (a.noted.getD .selfTimed)

/-! ### Releases (R93 to R95) -/

/-- The end cause that a release gives (R93). -/
def ReleaseSource.cause : ReleaseSource → EndCause
  | .pin => .releasedPin
  | .link => .releasedLink
  | .disarm => .disarmed

/-- What became of a release request (R96). -/
inductive Disposition where
  | taken
  | held (remaining : Nat)
  | alreadyHeld (remaining : Nat)
  deriving DecidableEq, Repr

/-- The periods at which min_on is reached (R82). -/
def State.minOnPeriods (s : State) (a : Actuation) : Nat := 2 * (s.shapeOf a).fields.minOn

/-- The time remaining to min_on, in 0.1 ms, rounded up (R96). -/
def State.minOnRemaining (s : State) (a : Actuation) : Nat := (s.minOnPeriods a - a.time + 1) / 2

/-- A release request taken by an ENERGIZING or HOLDING channel: of no effect while a release is held, at once when min_on is
reached, and held otherwise (R93, R94, R95). -/
def State.requestRelease (s : State) (ch : ChannelId) (a : Actuation) (source : ReleaseSource) : State × Disposition :=
  if a.heldFrom.isSome then (s, .alreadyHeld (s.minOnRemaining a))
  else if s.minOnPeriods a ≤ a.time then (s.enterRelease ch source.cause, .taken)
  else (s.setRunning ch { a with heldFrom := some source, earlyHeld := true }, .held (s.minOnRemaining a))

/-! ### What falls due to the channel at a period's end (R82) -/

/-- Whether a held release has reached min_on (R95). -/
def State.minOnDue (s : State) (a : Actuation) : Bool :=
  decide (a.seq = .energize) && a.heldFrom.isSome && decide (s.minOnPeriods a ≤ a.time)

/-- The held release takes effect with its source's end cause (R95). -/
def State.takeHeld (s : State) (ch : ChannelId) (a : Actuation) : State :=
  s.enterRelease ch ((a.heldFrom.map ReleaseSource.cause).getD .releasedLink)

/-- Whether the open-ended phase has reached its hold cap (R90). -/
def State.holdDue (s : State) (a : Actuation) : Bool :=
  decide (a.seq = .energize) && (s.phaseOf a).any (fun ph => ph.duration = 0) &&
    decide (Config.holdCapPeriods * (s.shapeOf a).fields.holdCap ≤ a.phaseTime)

/-- Whether the last period of a phase was its last: its duration is reached, or a FAST_DECAY saw no current (R83, R88). -/
def State.phaseDue (s : State) (ch : ChannelId) (a : Actuation) : Bool :=
  (s.phaseOf a).any fun ph =>
    (decide (0 < ph.duration) && decide (2 * ph.duration ≤ a.phaseTime)) ||
      (decide (ph.kind = .fastDecay) && decide (0 < a.phaseTime) && decide ((s.stage ch).sensed = 0))

/-- The end that the channel's last period made due, if any, taken: a held release first, since it decides over an end of the
same period; then the hold cap, then the phase (R82, R90, R91, R95). -/
def State.settleEnds (s : State) (ch : ChannelId) : State :=
  match (s.channel ch).running with
  | none => s
  | some a =>
    if s.minOnDue a then s.takeHeld ch a
    else if s.holdDue a then s.enterRelease ch .holdExpired
    else if s.phaseDue ch a then s.endPhase ch
    else s

/-- Everything that the channel's last period made due, taken (R82, R107). -/
def State.settleDue (s : State) (ch : ChannelId) : State := (s.settleUnit ch).settleEnds ch

/-! ### The stage's orders (R84 to R89) -/

/-- The target of a ramp's k-th period of n, from S to L, its fraction dropped toward zero, and at most 400 (R86). -/
def rampTarget (start level k n : Nat) : Nat :=
  min Config.maxTarget ((start : Int) + Int.tdiv (((level : Int) - start) * k) n).toNat

/-- The stage after a period of a phase: the order the phase gives, the duty the stage ended with, and the sensed current
(R84 to R89; the duty of a decay: notes/assumptions/23.md). `k` counts the phase's periods from 1. -/
def Stage.period (st : Stage) (ph : PhaseEntry) (entryCurrent k : Nat) (r : PeriodReport) : Stage :=
  let sensed := min Config.maxSensed r.sensed
  match ph.kind with
  | .rampCurrent =>
    { mode := .regulate, target := rampTarget (ph.start.getD entryCurrent) ph.level k (2 * ph.duration),
      duty := r.duty.toNat, sensed := sensed }
  | .holdCurrent => { mode := .regulate, target := ph.level, duty := r.duty.toNat, sensed := sensed }
  | .driveDuty => { mode := .duty, target := 0, duty := ph.level, sensed := sensed }
  | .fastDecay => { st with mode := .decay, duty := r.duty.toNat, sensed := sensed }
  | .coast => { st with mode := .off, duty := 0, sensed := sensed }

/-- Whether the stage drives in a phase's periods, so that its comparator watches the current (R136). -/
def PhaseKind.watched : PhaseKind → Bool
  | .rampCurrent => true
  | .holdCurrent => true
  | .driveDuty => true
  | .fastDecay => true
  | .coast => false

/-! ### One period of a channel (R82) -/

/-- A period of a driving channel: the stage works to the phase at the cursor, both times rise by 1, the unit takes the
report, and a FAST_DECAY that saw no current ends (R82, R88, R107). -/
def State.drivenPeriod (s : State) (ch : ChannelId) (a : Actuation) (r : PeriodReport) : State :=
  match s.phaseOf a with
  | none => s.setStage ch { s.stage ch with sensed := min Config.maxSensed r.sensed }
  | some ph =>
    let v := (s.shapeOf a).fields
    let s := s.setStage ch ((s.stage ch).period ph a.entryCurrent (a.phaseTime + 1) r)
    let s := s.setRunning ch { a with time := a.time + 1, phaseTime := a.phaseTime + 1 }
    let s := s.setDiag ch
      ((s.diag ch).period v a.seq ph (a.time + 1) (a.phaseTime + 1) (min Config.maxSensed r.sensed) s.monitor.vs)
    if ph.kind = .fastDecay ∧ r.sensed = 0 then s.endPhase ch else s

/-- Whether the pull check runs in a period of a channel that is not driving: where it is on, but for the period that a trip fell
into, since the pull is applied again from the first period after the end step (R138; notes/assumptions/21.md). DESIGN CHOICE: a
SET_CHANNEL that turns the check on and an end step that is no trip's fall between two periods, so that the next one is the first
with the pull (notes/assumptions/41.md). -/
def ChannelFault.pulled (f : ChannelFault) (check : Bool) : Bool := check && !f.tripPeriod

/-- What a period leaves of the fault items of a channel that is not driving (R138, R139): the result, and the window count of a
READY or UNBOUND channel; an overcurrent condition ends with a whole period after the trip whose current is below 500
(R137). -/
def ChannelFault.period (f : ChannelFault) (check : Bool) (r : PeriodReport) : ChannelFault :=
  { f with
    pull := if f.pulled check then (if r.outOfBand then .outOfBand else .inBand) else .notRunning
    window := if f.pulled check && !f.latched && r.outOfBand then min Config.openLoadPeriods (f.window + 1) else 0
    overcurrentPresent := f.overcurrentPresent && (f.tripPeriod || decide (Config.overcurrentLevel ≤ r.sensed))
    tripPeriod := false }

/-- A period of a channel that is not driving: the stage measures, and the pull check runs where it is on (R84, R138). -/
def State.idlePeriod (s : State) (ch : ChannelId) (r : PeriodReport) : State :=
  let s := s.setStage ch { s.stage ch with sensed := min Config.maxSensed r.sensed }
  s.setChFault ch ((s.chFault ch).period (s.channel ch).openLoadCheck r)

/-! ### The CTL line (R72 to R76) -/

/-- The level last seen on a channel's CTL line replaced (R72). -/
def State.seeLine (s : State) (ch : ChannelId) (level : CtlSeen) : State :=
  s.setChannel ch { s.channel ch with ctlSeen := level }

/-- The edge-armed flag of a channel replaced. -/
def State.setEdge (s : State) (ch : ChannelId) (armed : Bool) : State :=
  s.setChannel ch { s.channel ch with edgeArmed := armed }

/-- Whether the channel itself lets an assertion of its line start it: the first three conditions of R76. -/
def State.pinStartAllowed (s : State) (ch : ChannelId) : Bool :=
  (s.channel ch).edgeArmed && decide (s.modes.mode = .armed) && decide ((s.channel ch).trigger ≠ .link)

/-- An assertion on a READY channel, judged as a start request; the edge-armed flag is cleared whatever the judgment (R74,
R76). -/
def State.pinStart (s : State) (ch : ChannelId) : State :=
  if s.pinStartAllowed ch then
    match s.start ch .pin with
    | some (t, _, _) => t
    | none => s.setEdge ch false
  else s.setEdge ch false

/-- A seen assertion of a channel's line (R74). -/
def State.lineAsserted (s : State) (ch : ChannelId) : State :=
  if (s.seeLine ch .asserted).ready ch then (s.seeLine ch .asserted).pinStart ch else s.seeLine ch .asserted

/-- A deassertion seen on a driving channel: a release request where the line started it (R74, R93). -/
def State.pinRelease (s : State) (ch : ChannelId) (a : Actuation) : State :=
  if a.seq = .energize ∧ a.origin = .pin then (s.requestRelease ch a .pin).1 else s

/-- A seen deassertion of a channel's line (R74). -/
def State.lineDeasserted (s : State) (ch : ChannelId) : State :=
  let t := s.seeLine ch .deasserted
  match (t.channel ch).running with
  | some a => t.pinRelease ch a
  | none => if t.ready ch then t.setEdge ch true else t

/-- The level last seen that a sampled level leaves (R72). -/
def seenAs : LineLevel → CtlSeen
  | .asserted => .asserted
  | .deasserted => .deasserted

/-- A sample of a channel's CTL line (R72): the first after a full reset sets the level last seen and is seen as no change; a level
that differs from the level last seen is an assertion or a deassertion, and one that does not is no change. -/
def State.sampleLine (s : State) (ch : ChannelId) (level : LineLevel) : State :=
  match (s.channel ch).ctlSeen, level with
  | .unsampled, _ => s.seeLine ch (seenAs level)
  | .deasserted, .asserted => s.lineAsserted ch
  | .deasserted, .deasserted => s
  | .asserted, .asserted => s
  | .asserted, .deasserted => s.lineDeasserted ch

/-! ### The OPEN_LOAD latch (R139) -/

/-- Whether the window of a READY or UNBOUND channel with its check on has counted its six periods (R139). -/
def State.openLoadDue (s : State) (ch : ChannelId) : Bool :=
  !s.driving ch && !(s.chFault ch).latched && (s.channel ch).openLoadCheck &&
    decide (Config.openLoadPeriods ≤ (s.chFault ch).window)

/-- The OPEN_LOAD latch is set: the channel becomes FAULTED with its binding kept, its window count 0 and its edge-armed flag
clear (R63, R73, R139). -/
def State.latchOpenLoad (s : State) (ch : ChannelId) : State :=
  let s := s.setChFault ch { s.chFault ch with openLoad := true, window := 0 }
  s.setChannel ch { s.channel ch with edgeArmed := false }

/-- What the last period of a channel made due, taken, the OPEN_LOAD latch included (R82, R107, R139). -/
def State.settleChannel (s : State) (ch : ChannelId) : State :=
  let s := s.settleDue ch
  if s.openLoadDue ch then s.latchOpenLoad ch else s

/-- One regulation period of a channel: what the last one made due is taken first, so that no period passes over it, then the
stage works for the period, and the level the line was sampled at in it is taken at its end (R72, R82; notes/assumptions/4.md). -/
def State.channelPeriod (s : State) (ch : ChannelId) (r : PeriodReport) : State :=
  let s := s.settleChannel ch
  let s := match (s.channel ch).running with
    | some a => s.drivenPeriod ch a r
    | none => s.idlePeriod ch r
  s.sampleLine ch r.ctl

/-! ### The overcurrent trip (R136) -/

/-- Whether the stage of a channel is watched: it drives in a phase that is no COAST (R136; notes/assumptions/22.md). -/
def State.watched (s : State) (ch : ChannelId) : Bool :=
  match (s.channel ch).running with
  | none => false
  | some a => (s.phaseOf a).any fun ph => ph.kind.watched

/-- The trip of a watched stage: the latch is set and its condition present, and the channel stops abruptly (R99, R136). -/
def State.trip (s : State) (ch : ChannelId) : State :=
  let s := s.setChFault ch { s.chFault ch with overcurrent := true, overcurrentPresent := true, tripPeriod := true }
  s.abruptStop .overcurrent ch

end Sys2Proof.Machine
end

