-- ==== Sys2Proof/Machine/Link.lean ====
section
/-! DEFINITION. How the link port takes a frame and prepares its reply (Chapter 11), and which commands each part mode
accepts (R165). -/

namespace Sys2Proof.Machine

/-- What an owner answers: a result code and the reply data of its rule (R189). -/
structure Answer where
  result : ResultCode
  data : ReplyData := {}
  deriving DecidableEq, Repr

/-- An owner's refusal that carries no data: nothing changes (R25, R196). -/
def refuse (s : State) (r : ResultCode) : State × Answer := (s, { result := r })

/-- An owner's OK with its data. -/
def okWith (s : State) (d : ReplyData) : State × Answer := (s, { result := .ok, data := d })

/-- Whether a part mode other than LOADING accepts a command (R165). -/
def PartMode.accepts (m : PartMode) (c : Command) : Bool :=
  match c with
  | .actuate => m = .armed
  | .disarm => m ≠ .safe
  | .leaveSafe => m = .safe
  | .storeOpen => m = .standby
  | _ => true

/-- Whether the port takes the end of a frame: the part is not in full reset, and a frame is open (R184, R192). -/
def State.frameTaken (s : State) : Bool := !s.inFullReset && s.link.frameOpen

/-- A rising edge of SCK while a frame is open: the bit on SDI enters the receive buffer. Other edges are ignored (R184). -/
def LinkPort.sckRises (l : LinkPort) (bit : Bool) : LinkPort :=
  if l.frameOpen then { l with received := l.received ++ [bit] } else l

/-- A falling edge of SCK while a frame is open: SDO moves to the next bit of the transmit buffer, of which 96 can be shifted
out. Other edges are ignored (R184). -/
def LinkPort.sckFalls (l : LinkPort) : LinkPort :=
  if l.frameOpen then { l with shifted := min Config.frameBits (l.shifted + 1) } else l

/-- The port after the host has clocked some bits, one rising and one falling edge each; `LinkPort.sdo` of it is SDO then
(R184). -/
def LinkPort.clocked (l : LinkPort) (bits : List Bool) : LinkPort := bits.foldl (fun l bit => (l.sckRises bit).sckFalls) l

/-- A frame run through from its beginning, its bits clocked one by one, to the rising edge of nCS: no frame is open. No row of the
table stands for an edge of SCK, so the command that ends a frame clocks it through (R184; notes/assumptions/6.md). -/
def LinkPort.ended (l : LinkPort) (bits : List Bool) : LinkPort :=
  { ({ l with received := [], shifted := 0 } : LinkPort).clocked bits with frameOpen := false }

/-- nCS rises on a frame of some bits (R184). -/
def State.closeFrame (s : State) (bits : List Bool) : State := { s with link := s.link.ended bits }

/-- The prepared reply replaced (R189). -/
def State.prepare (s : State) (r : Reply) : State := { s with link := { s.link with prepared := r } }

/-- The judgment of a frame that carries one of the 36 commands and passed its check: the port's refusals in order, and
otherwise the command's owner (R188). -/
def judge (c : Command) (f : Frame) (s : State) (owner : State → State × Answer) : State × Answer :=
  if s.modes.mode = .loading then refuse s .notReady
  else if !reservedClear c f then refuse s .badParam
  else if !s.modes.mode.accepts c then refuse s .modeRefused
  else owner s

/-- The end of a frame that carries a command: it is judged, and its reply prepared, in one step (R184, R188, R189). Where no
frame is open, the edge ends none and nothing changes (R184, R192). -/
def linkCommand (c : Command) (f : Frame) (s : State) (owner : State → State × Answer) : State :=
  if s.frameTaken then
    let a := judge c f (s.closeFrame (bytesBits (frameBytes (commandCode c) f))) owner
    a.1.prepare { result := a.2.result, code := commandCode c, tag := some (frameTag f), data := a.2.data }
  else s

/-- A frame that carries a code that is none of the 36: NOT_READY during LOADING, and otherwise UNKNOWN_COMMAND (R188). -/
def unknownFrame (code : Byte) (f : Frame) (s : State) : State :=
  if s.frameTaken then
    (s.closeFrame (bytesBits (frameBytes code f))).prepare
      { result := if s.modes.mode = .loading then .notReady else .unknownCommand
        code := code, tag := some (frameTag f), data := {} }
  else s

/-- Why a frame is rejected (R185, R186). -/
inductive RejectReason where
  | short | long | check
  deriving DecidableEq, Repr

/-- The reason for a frame's rejection: its length, and otherwise its check (R185, R186). -/
def rejectReason (bits : List Bool) : RejectReason :=
  if bits.length < Config.frameBits then .short else if Config.frameBits < bits.length then .long else .check

/-- The coding of the reason (R196). -/
def reasonCode : RejectReason → Nat
  | .short => 1
  | .long => 2
  | .check => 3

/-- The FRAME_REJECTED reply (R187, R196). -/
def rejectionReply (bits : List Bool) : Reply :=
  let bs := bitsBytes bits
  { result := .frameRejected
    code := bs.getD 0 0
    tag := match rejectReason bits with
      | .check => some ((bs.getD 1 0).setWidth 4)
      | .short => none
      | .long => none
    data := { b4 := byteOf (reasonCode (rejectReason bits)), b5 := byteOf (min 255 (bits.length / 8)) } }

/-- A rejected frame: the COMM flag is set, and the reply is FRAME_REJECTED (R187, R145). -/
def rejectFrame (bits : List Bool) (s : State) : State :=
  if s.frameTaken then
    let s := { s with faults := { s.faults with comm := true } }
    (s.closeFrame bits).prepare (rejectionReply bits)
  else s

/-- nCS falls: unless a frame is open already, one is opened, with an empty receive buffer and the reply to send loaded
(R184, R190). -/
def beginFrame (s : State) : State :=
  if s.inFullReset || s.link.frameOpen then s
  else
    { s with
      link :=
        { s.link with
          received := [], frameOpen := true, transmit := transmitFrame s.statusByte s.link.prepared, shifted := 0 } }

end Sys2Proof.Machine
end

