-- ==== Sys2Proof/Machine/ChannelCommands.lean ====
section
/-! DEFINITION. The channel controllers' commands (Chapters 4 to 6): BIND, UNBIND, SET_CHANNEL, READ_CHANNEL, ACTUATE, RELEASE
and READ_OUTCOME. -/

namespace Sys2Proof.Machine

/-- A command that names a channel answers BAD_TARGET for a number outside 0 to 7 (R65, R67, R70, R71, R77, R96, R120). -/
def withChannel (b : Byte) (s : State) (k : ChannelId → State × Answer) : State × Answer :=
  match channelId? b with
  | none => refuse s .badTarget
  | some ch => k ch

/-! ### BIND and UNBIND -/

/-- An accepted BIND: the binding is set, and a channel that was UNBOUND takes its edge-armed flag from its line (R66). -/
def State.acceptBind (s : State) (ch : ChannelId) (p : ProfileId) : State :=
  if s.activity ch = .unbound then (s.bindTo ch p).settleEdge ch else s.bindTo ch p

/-- BIND at the channel (R65, R66). -/
def bindChannel (f : Frame) (s : State) : State × Answer :=
  match channelId? f.b2, profileId? f.b3 with
  | some ch, some p =>
    if s.driving ch then refuse s .busy
    else if (s.profile p).live.isNone then refuse s .noProfile
    else
      let t := s.acceptBind ch p
      okWith t { b4 := byteOf (activityCode (t.activity ch)), b5 := byteOf (t.profile p).bindingCount }
  | _, _ => refuse s .badTarget

/-- BIND (R65, R66). -/
def execBind (f : Frame) (s : State) : Out := .next (linkCommand .bind f s (bindChannel f))

/-- An UNBIND that removes the binding at once; the edge-armed flag is cleared as the channel leaves READY (R67, R73). -/
def State.unbindNow (s : State) (ch : ChannelId) : State :=
  (s.removeBinding ch).setChannel ch { (s.removeBinding ch).channel ch with edgeArmed := false }

/-- UNBIND at the channel (R67). -/
def unbindChannel (f : Frame) (s : State) : State × Answer :=
  withChannel f.b2 s fun ch =>
    if s.driving ch then
      if (s.channel ch).unbindPending then refuse s .unbindPending
      else okWith (s.setChannel ch { s.channel ch with unbindPending := true }) { b4 := 2 }
    else if (s.channel ch).binding.isNone then refuse s .unbound
    else okWith (s.unbindNow ch) { b4 := 1 }

/-- UNBIND (R67). -/
def execUnbind (f : Frame) (s : State) : Out := .next (linkCommand .unbind f s (unbindChannel f))

/-! ### SET_CHANNEL and READ_CHANNEL -/

/-- Both settings of a channel replaced; turning the check off removes the pull and abandons the window (R70, R138, R139). -/
def State.applySettings (s : State) (ch : ChannelId) (t : TriggerSource) (check : Bool) : State :=
  let s := s.setChannel ch { s.channel ch with trigger := t, openLoadCheck := check }
  if check then s else s.removePull ch

/-- SET_CHANNEL at the channel (R70). -/
def setChannelSettings (f : Frame) (s : State) : State × Answer :=
  withChannel f.b2 s fun ch =>
    match triggerOfCode (f.b3.toNat % 4) with
    | none => refuse s .badParam
    | some t =>
      if s.driving ch then refuse s .busy
      else okWith (s.applySettings ch t (f.b3.getLsbD 7))
        { b4 := byteOf (bit (f.b3.getLsbD 7) * 128 + triggerCode t) }

/-- SET_CHANNEL (R70). -/
def execSetChannel (f : Frame) (s : State) : Out := .next (linkCommand .setChannel f s (setChannelSettings f))

/-- READ_CHANNEL at the channel (R71). DESIGN CHOICE: BAD_TARGET before BAD_PARAM (notes/assumptions/39.md). -/
def readChannel (f : Frame) (s : State) : State × Answer :=
  withChannel f.b2 s fun ch =>
    if f.b3 = 1 then okWith s (setupData s ch)
    else if f.b3 = 2 then okWith s (activityData s ch)
    else refuse s .badParam

/-- READ_CHANNEL (R71). -/
def execReadChannel (f : Frame) (s : State) : Out := .next (linkCommand .readChannel f s (readChannel f))

/-! ### ACTUATE and RELEASE -/

/-- ACTUATE at a channel that is neither WRONG_SOURCE, FAULTED, UNBOUND nor driving: the start, or the table's refusal (R77). -/
def actuateReady (s : State) (ch : ChannelId) : State × Answer :=
  match s.start ch .link with
  | none => refuse s .withheld
  | some (t, p, gen) => okWith t { b4 := byteOf (idOf p), b5 := hiByte gen, b6 := loByte gen }

/-- ACTUATE at a channel that is driving (R77). -/
def actuateDriving (s : State) (ch : ChannelId) : State × Answer :=
  if (s.channel ch).unbindPending then refuse s .unbindPending else refuse s .busy

/-- ACTUATE at the channel (R77, R78). -/
def actuate (f : Frame) (s : State) : State × Answer :=
  withChannel f.b2 s fun ch =>
    if (s.channel ch).trigger = .pin then refuse s .wrongSource
    else match s.activity ch with
      | .faulted => refuse s .faulted
      | .unbound => refuse s .unbound
      | .energizing => actuateDriving s ch
      | .holding => actuateDriving s ch
      | .releasing => actuateDriving s ch
      | .ready => actuateReady s ch

/-- ACTUATE (R77, R78, R103). -/
def execActuate (f : Frame) (s : State) : Out := .next (linkCommand .actuate f s (actuate f))

/-- The reply data of RELEASE: the disposition, and the time remaining to min_on (R96, 12.6). -/
def dispositionData : Disposition → ReplyData
  | .taken => { b4 := 1 }
  | .held n => { b4 := 2, b5 := hiByte n, b6 := loByte n }
  | .alreadyHeld n => { b4 := 3, b5 := hiByte n, b6 := loByte n }

/-- RELEASE at the channel (R96). -/
def releaseChannel (f : Frame) (s : State) : State × Answer :=
  withChannel f.b2 s fun ch =>
    match (s.channel ch).running with
    | none => refuse s .notActive
    | some a =>
      match a.seq with
      | .release => refuse s .notActive
      | .energize =>
        let t := s.requestRelease ch a .link
        okWith t.1 (dispositionData t.2)

/-- RELEASE (R93 to R96). -/
def execRelease (f : Frame) (s : State) : Out := .next (linkCommand .release f s (releaseChannel f))

/-! ### READ_OUTCOME -/

/-- The unread flag as a read leaves it: cleared by the read of a HELD record (R120). -/
def State.markRead (s : State) (ch : ChannelId) : State :=
  if (s.channel ch).outcome.isSome then s.setChannel ch { s.channel ch with unread := false } else s

/-- READ_OUTCOME at the channel (R120). DESIGN CHOICE: BAD_TARGET before BAD_PARAM (notes/assumptions/39.md). -/
def readOutcome (f : Frame) (s : State) : State × Answer :=
  withChannel f.b2 s fun ch =>
    if f.b3 = 1 then okWith (s.markRead ch) (summaryData (s.channel ch).outcome (s.channel ch).unread)
    else if f.b3 = 2 then okWith (s.markRead ch) (measuresData (s.channel ch).outcome (s.channel ch).unread)
    else refuse s .badParam

/-- READ_OUTCOME (R120). -/
def execReadOutcome (f : Frame) (s : State) : Out := .next (linkCommand .readOutcome f s (readOutcome f))

end Sys2Proof.Machine
end

