-- ==== Sys2Proof/Machine/StoreOps.lean ====
section
/-! DEFINITION. The profile store's operations: copies and their check word (R166, R167), sessions (R171), a write's beginning,
completion and abandonment (R175, R176), and the loader (R179 to R181). -/

namespace Sys2Proof.Machine

/-! ### The check word of a copy (R167) -/

/-- A two-byte value, most significant byte first. -/
def wordBytes (n : Nat) : List Byte := [hiByte n, loByte n]

/-- A phase entry as bytes of a copy (the order of a copy's bytes: notes/assumptions/14.md). -/
def entryBytes (e : PhaseEntry) : List Byte :=
  byteOf (bit e.hit * 128 + bit e.motion * 64 + kindCode e.kind) ::
    (wordBytes e.level ++ wordBytes e.duration ++ wordBytes (startWord e.start))

/-- An optional window as bytes of a copy. -/
def windowBytes (w : Option Window) : List Byte :=
  byteOf (bit w.isSome) :: (wordBytes (windowBounds w).1 ++ wordBytes (windowBounds w).2)

/-- The profile-level fields as bytes of a copy. -/
def fieldBytes (v : Fields) : List Byte :=
  wordBytes v.minOn ++ wordBytes v.holdCap ++
    [byteOf v.hitTolerance, byteOf (bit v.dipThreshold.isSome), byteOf (v.dipThreshold.getD 0), byteOf v.dipPersistence] ++
    windowBytes v.travelWindow ++ windowBytes v.resistanceWindow ++ [byteOf v.failureThreshold]

/-- The content of a copy as bytes (R167; notes/assumptions/14.md). -/
def contentBytes : CopyContent → List Byte
  | .profile id gen sh =>
    byteOf (idOf id) :: (wordBytes gen ++ [byteOf sh.energize.length, byteOf sh.release.length] ++
      sh.energize.flatMap entryBytes ++ sh.release.flatMap entryBytes ++ fieldBytes sh.fields)
  | .map entries arm =>
    entries.toList.flatMap (fun e => [byteOf (bindingCode e.binding), byteOf (bit e.openLoadCheck * 128 + triggerCode e.trigger)])
      ++ [byteOf (bit arm)]
  | .lockMark => [1]

/-- The check word that ends a copy (R167). -/
def checkWord (c : CopyContent) : BitVec 16 := crc16 (contentBytes c)

/-- Whether a content is of its slot's kind, a profile copy with its slot's id and sequence counts in range (R167). -/
def fitsSlot (slot : Slot) : CopyContent → Bool
  | .profile id _ sh =>
    decide (slot = profileSlot id) && within 1 sh.energize.length Config.maxEnergize &&
      within 0 sh.release.length Config.maxRelease
  | .map _ _ => decide (slot = mapSlot)
  | .lockMark => decide (slot = lockSlot)

/-- The content of a copy that is valid as the store reads it (R167). -/
def validContent (slot : Slot) : Cell → Option CopyContent
  | .blank => none
  | .partlyWritten => none
  | .written c check => if check = checkWord c ∧ fitsSlot slot c then some c else none

/-- The state of a copy as the store reads it (R166, R167). -/
def cellState (slot : Slot) (cell : Cell) : CopyState :=
  match cell with
  | .blank => .blank
  | .partlyWritten => .spoiled
  | .written c check => if (validContent slot (.written c check)).isSome then .valid else .spoiled

/-! ### Slots -/

/-- The copies of a slot in the array, copy 1 first. -/
def Store.cells (st : Store) (slot : Slot) : List Cell := st.array.get slot

/-- The states of a slot's copies in the copy-state record, copy 1 first. -/
def Store.states (st : Store) (slot : Slot) : List CopyState := st.record.get slot

/-- The store with one copy of the array replaced; copies count from 1. -/
def Store.setCell (st : Store) (slot : Slot) (copy : Nat) (cell : Cell) : Store :=
  { st with array := st.array.set slot.val ((st.cells slot).set (copy - 1) cell) slot.isLt }

/-- The store with the state of one copy replaced in the record; copies count from 1. -/
def Store.setCopyState (st : Store) (slot : Slot) (copy : Nat) (c : CopyState) : Store :=
  { st with record := st.record.set slot.val ((st.states slot).set (copy - 1) c) slot.isLt }

/-- The number of the lowest blank copy of a slot, by the record (R172). -/
def Store.lowestBlank (st : Store) (slot : Slot) : Option Nat :=
  ((st.states slot).findIdx? fun c => decide (c = .blank)).map (· + 1)

/-- How many copies of a slot are blank, by the record (R178). -/
def Store.blanks (st : Store) (slot : Slot) : Nat := ((st.states slot).filter fun c => decide (c = .blank)).length

/-- The content of the highest-numbered valid copy of a slot, as the array is read (R166, R179). -/
def Store.newestValid (st : Store) (slot : Slot) : Option CopyContent :=
  ((st.cells slot).filterMap (validContent slot)).getLast?

/-- The generation of a profile slot's highest-numbered valid copy; 0 where it has none, and for the map and lock slots
(R178). -/
def Store.newestGeneration (st : Store) (slot : Slot) : Nat :=
  match st.newestValid slot with
  | some (.profile _ gen _) => gen
  | some (.map _ _) => 0
  | some .lockMark => 0
  | none => 0

/-! ### Writes (R175, R176) -/

/-- A write begins: the copy is partly written and recorded spoiled, and the write is in flight with its 3 ms (R175). -/
def Store.beginWrite (st : Store) (slot : Slot) (copy : Nat) (snapshot : CopyContent) : Store :=
  let st := (st.setCell slot copy .partlyWritten).setCopyState slot copy .spoiled
  { st with
    inFlight := some { slot := slot, copy := copy, snapshot := snapshot, remaining := Config.storeWritePeriods } }

/-- A write completes (R174, R175): the copy holds the snapshot and its check word and is valid; a lock write locks the store
and closes the session, and a CLOSING session becomes CLOSED. -/
def Store.completeWrite (st : Store) (w : Write) : Store :=
  let st := (st.setCell w.slot w.copy (.written w.snapshot (checkWord w.snapshot))).setCopyState w.slot w.copy .valid
  let isLock := decide (w.snapshot = .lockMark)
  { st with
    inFlight := none
    lastResult := .done w.slot w.copy
    locked := st.locked || isLock
    session := if isLock ∨ st.session = .closing then .closed else st.session }

/-- Whether the 3 ms of the write in flight have passed (R175). -/
def Write.due (w : Write) : Bool := decide (w.remaining = 0)

/-- The write in flight completed if its 3 ms have passed (R175). -/
def Store.settleWrite (st : Store) : Store :=
  match st.inFlight with
  | none => st
  | some w => if w.due then st.completeWrite w else st

/-- The write in flight one period on (R175). -/
def Store.writePeriod (st : Store) : Store :=
  match st.inFlight with
  | none => st
  | some w => { st with inFlight := some { w with remaining := w.remaining - 1 } }

/-- The session ended and a write in flight abandoned, its copy left spoiled: a soft reset, or a PROG_OK that becomes false
(R171, R176). -/
def Store.abandon (st : Store) : Store :=
  match st.inFlight with
  | none => { st with session := .closed }
  | some w => { st with session := .closed, inFlight := none, lastResult := .abandoned w.slot w.copy }

/-- The session ended as the mode leaves STANDBY for SAFE: a write in flight continues (R171). -/
def Store.leaveStandby (st : Store) : Store :=
  match st.session with
  | .isOpen => { st with session := if st.inFlight.isSome then .closing else .closed }
  | .closed => st
  | .closing => st

/-! ### The loader -/

/-- The loader reads a slot and enters the state of each of its copies (R179). -/
def Store.recordSlot (st : Store) (slot : Slot) : Store :=
  { st with record := st.record.set slot.val ((st.cells slot).map (cellState slot)) slot.isLt }

end Sys2Proof.Machine
end

