-- ==== Sys2Proof/Machine/PartOps.lean ====
section
/-! DEFINITION. Operations over the whole part: the monitor's measurements and what each change of a condition does (Chapter
8), the mode changes (Chapter 9), clearing faults, the two resets, and the shared regulation period. -/

namespace Sys2Proof.Machine

/-- The state with the part mode replaced. -/
def State.setMode (s : State) (m : PartMode) : State := { s with modes := { s.modes with mode := m } }

/-! ### Full reset (R143) -/

/-- The part in full reset: every block in its full-reset state, the nonvolatile array kept, the waiting commands kept
(R23, R43, R80, R104, R135, R143, R166, R183). -/
def State.toFullReset (s : State) : State := { State.fullReset s.store.array with pending := s.pending }

/-! ### Mode changes (Chapter 9) -/

/-- The part enters SAFE (R156): every driving channel stopped with SAFE_STOP, and from STANDBY the store's session ended. -/
def State.enterSafe (s : State) : State :=
  let s := if s.modes.mode = .standby then { s with store := s.store.leaveStandby } else s
  (s.stopAll .safeStop).setMode .safe

/-- A sample of nSAFE sets the level last seen (R155). -/
def State.seeNsafe (s : State) (level : LineLevel) : State := { s with modes := { s.modes with nsafeSeen := level } }

/-- What a sample of nSAFE seen asserted does: it is remembered during LOADING, of no effect in SAFE, and the entry to SAFE in the
other modes (R155, R156). -/
def State.nsafeActs (s : State) : State :=
  match s.modes.mode with
  | .loading => { s with modes := { s.modes with nsafeRemembered := true } }
  | .standby => s.enterSafe
  | .armed => s.enterSafe
  | .suspended => s.enterSafe
  | .safe => s

/-- A sample of nSAFE: the level last seen, and what an asserted one does (R155). -/
def State.sampleNsafe (s : State) (level : LineLevel) : State :=
  match level with
  | .asserted => (s.seeNsafe .asserted).nsafeActs
  | .deasserted => s.seeNsafe .deasserted

/-- An onset reaches the mode controller: an ARMED part enters SUSPENDED, and every driving channel is stopped (R160). -/
def State.suspend (s : State) (cause : EndCause) : State :=
  if s.modes.mode = .armed then (s.stopAll cause).setMode .suspended else s

/-- A clearing reaches the mode controller: a SUSPENDED part with neither condition present returns to ARMED (R161). -/
def State.resume (s : State) : State :=
  if s.modes.mode = .suspended ∧ !s.monitor.uvm ∧ !s.monitor.ovt then s.setMode .armed else s

/-! ### The stretch (R150) -/

/-- The regulation periods of a stretch setting (R150). -/
def stretchPeriods : StretchSetting → Nat
  | .zero => 0
  | .ms250 => 5000
  | .ms500 => 10000
  | .ms1000 => 20000

/-- The stretch started or restarted at an onset, if its class is unmasked and the setting is not 0 (R144, R150). -/
def FaultUnit.startStretch (u : FaultUnit) (masked : Bool) : FaultUnit :=
  if masked ∨ u.stretch = .zero then u else { u with timer := some (stretchPeriods u.stretch) }

/-- A stretch timer that has reached 0 stops (R150). -/
def settleStretch : Option Nat → Option Nat
  | none => none
  | some n => if n = 0 then none else some n

/-- The stretch timer over a period: one that had reached 0 has stopped, and one that runs falls by 1 at the end (R150). -/
def stretchPeriod (timer : Option Nat) : Option Nat := (settleStretch timer).map fun n => n - 1

/-! ### The monitor (R141, R142) -/

/-- An onset of UVM (R142, R144, R160). -/
def State.onsetUvm (s : State) : State :=
  let s := { s with
    monitor := { s.monitor with uvm := true }
    faults := ({ s.faults with uvm := true } : FaultUnit).startStretch s.faults.masks.uvm }
  s.suspend .suspendedSupply

/-- An onset of OVT (R142, R144, R160). -/
def State.onsetOvt (s : State) : State :=
  let s := { s with
    monitor := { s.monitor with ovt := true }
    faults := ({ s.faults with ovt := true } : FaultUnit).startStretch s.faults.masks.ovt }
  s.suspend .suspendedTemp

/-- UVM clears (R142, R161). -/
def State.clearUvm (s : State) : State := { s with monitor := { s.monitor with uvm := false } }.resume

/-- OVT clears (R142, R161). -/
def State.clearOvt (s : State) : State := { s with monitor := { s.monitor with ovt := false } }.resume

/-- PROG_OK becomes false: the session ends and a write in flight is abandoned (R142, R171, R176). -/
def State.loseProgOk (s : State) : State :=
  { s with monitor := { s.monitor with progOk := false }, store := s.store.abandon }

/-- The UVM condition judged by a VS measurement in 10 mV (R141). -/
def State.judgeUvm (s : State) (vs : Nat) : State :=
  if !s.monitor.uvm ∧ vs < Config.uvmOnsetBelow then s.onsetUvm
  else if s.monitor.uvm ∧ Config.uvmClearsAbove < vs then s.clearUvm
  else s

/-- The PROG_OK condition judged by a VS measurement in 10 mV (R141). -/
def State.judgeProgOk (s : State) (vs : Nat) : State :=
  if !s.monitor.progOk ∧ Config.progOkFrom ≤ vs then { s with monitor := { s.monitor with progOk := true } }
  else if s.monitor.progOk ∧ vs < Config.progOkLostBelow then s.loseProgOk
  else s

/-- The OVT condition judged by a measurement of the die temperature in °C (R141). -/
def State.judgeOvt (s : State) (temp : Int) : State :=
  if !s.monitor.ovt ∧ Config.ovtOnsetFrom ≤ temp then s.onsetOvt
  else if s.monitor.ovt ∧ temp < Config.ovtClearsBelow then s.clearOvt
  else s

/-- A measurement of VS, in 10 mV: kept, and the two conditions it bears on judged (R141). -/
def State.measureVs (s : State) (vs : Nat) : State :=
  (({ s with monitor := { s.monitor with vs := min Config.maxVs vs } } : State).judgeUvm vs).judgeProgOk vs

/-- A measurement of the die temperature, in °C: kept, and its condition judged (R141). -/
def State.measureTemp (s : State) (temp : Int) : State :=
  ({ s with monitor := { s.monitor with temp := max Config.minTemp (min Config.maxTemp temp) } } : State).judgeOvt temp

/-- The counts of a shared period: a write whose 3 ms had passed completes, and the write and the stretch timer go one period on
(R150, R175). -/
def State.sharedCounts (s : State) : State :=
  { s with
    store := s.store.settleWrite.writePeriod
    faults := { s.faults with timer := stretchPeriod s.faults.timer } }

/-- A regulation period of the parts that exist once (R141, R143, R150, R155, R175): the counts, the monitor's measurements and the
sample of nSAFE, in this order (DESIGN CHOICE: notes/assumptions/25.md); a VDD below 2.5 V is a full reset. -/
def State.sharedPeriod (s : State) (vs vdd : Nat) (temp : Int) (nsafe : LineLevel) : State :=
  if vdd < Config.vddAdequateFrom then s.toFullReset
  else ((s.sharedCounts.measureVs vs).measureTemp temp).sampleNsafe nsafe

/-! ### Clearing faults (R146, R153) -/

/-- A channel's latches with each cleared whose condition is absent (R137, R140, R146). -/
def ChannelFault.clear (f : ChannelFault) : ChannelFault :=
  { f with
    overcurrent := f.overcurrent && f.overcurrentPresent
    openLoad := f.openLoad && decide (f.pull = .outOfBand) }

/-- The latches of a targeted channel judged: a channel left with none leaves FAULTED, its edge-armed flag set from its line
and its window at 0; a channel with no latch set is not affected (R63, R146). -/
def State.clearLatches (s : State) (ch : ChannelId) : State :=
  let f := s.chFault ch
  if !f.latched then s
  else
    let s := s.setChFault ch f.clear
    if f.clear.latched then s
    else (s.setChFault ch { f.clear with window := 0 }).settleEdge ch

/-- The three device flags judged: each cleared whose condition is absent, COMM always (R146). -/
def State.clearDeviceFlags (s : State) : State :=
  { s with
    faults := { s.faults with
      ovt := s.faults.ovt && s.monitor.ovt
      uvm := s.faults.uvm && s.monitor.uvm
      comm := false } }

/-! ### Soft reset (R163) -/

/-- A channel at soft reset, after its stop: its latches cleared but where their condition is present, its window count 0, its
edge-armed flag set from its line where it is READY, and its stage with no target (R81, R104, R153). -/
def State.softResetChannel (s : State) (ch : ChannelId) : State :=
  let s := s.setChFault ch { (s.chFault ch).clear with window := 0 }
  let s := s.setStage ch { s.stage ch with mode := .off, target := 0, duty := 0 }
  s.settleEdge ch

/-- The draft of a profile discarded at soft reset, if it holds one (R24). -/
def State.softResetProfile (s : State) (p : ProfileId) : State :=
  if (s.profile p).draft.isSome then s.discard p else s

/-- The soft reset, taken as one step (R163). -/
def State.softReset (s : State) : State :=
  let s := s.stopAll .softReset
  let s := allProfiles.foldl State.softResetProfile s
  let s := allChannels.foldl State.softResetChannel s.clearDeviceFlags
  { s with
    store := s.store.abandon
    modes := { s.modes with mode := if s.modes.nsafeSeen = .asserted then .safe else .standby }
    link := { s.link with received := [] } }

end Sys2Proof.Machine
end

