-- ==== Sys2Proof/Machine/FaultCommands.lean ====
section
/-! DEFINITION. The fault unit's commands (Chapter 8): READ_FAULTS, CLEAR_FAULTS and SET_FAULT_MASK. -/

namespace Sys2Proof.Machine

/-- READ_FAULTS at the fault unit (R148). -/
def readFaults (f : Frame) (s : State) : State × Answer :=
  if f.b2 = 1 then okWith s (faultFlagsData s)
  else if f.b2 = 2 then okWith s (monitorData s)
  else refuse s .badParam

/-- READ_FAULTS (R148). -/
def execReadFaults (f : Frame) (s : State) : Out := .next (linkCommand .readFaults f s (readFaults f))

/-- Every channel's latches and the three device flags judged (R146). -/
def State.clearAllFaults (s : State) : State := (allChannels.foldl State.clearLatches s).clearDeviceFlags

/-- What stands after CLEAR_FAULTS: the two sets of latched channels and the device flags (R146, 12.8). -/
def remainingFaults (s : State) : ReplyData :=
  { b4 := s.overcurrentSet, b5 := s.openLoadSet, b6 := byteOf (deviceFlags s.faults) }

/-- CLEAR_FAULTS at the fault unit (R146). -/
def clearFaults (f : Frame) (s : State) : State × Answer :=
  if f.b2 = 255 then okWith s.clearAllFaults (remainingFaults s.clearAllFaults)
  else withChannel f.b2 s fun ch => okWith (s.clearLatches ch) (remainingFaults (s.clearLatches ch))

/-- CLEAR_FAULTS (R146). -/
def execClearFaults (f : Frame) (s : State) : Out := .next (linkCommand .clearFaults f s (clearFaults f))

/-- SET_FAULT_MASK at the fault unit: a running stretch keeps its time (R149). -/
def setFaultMask (f : Frame) (s : State) : State × Answer :=
  okWith { s with faults := { s.faults with masks := masksOf f.b2, stretch := stretchOf f.b3 } }
    { b4 := byteOf (masksCode (masksOf f.b2)), b5 := byteOf (stretchCode (stretchOf f.b3)) }

/-- SET_FAULT_MASK (R149). -/
def execSetFaultMask (f : Frame) (s : State) : Out := .next (linkCommand .setFaultMask f s (setFaultMask f))

end Sys2Proof.Machine
end

