-- ==== Sys2Proof/Machine/LineEvents.lean ====
section
/-! DEFINITION. The lines: CTL_ASSERTED, CTL_DEASSERTED, NSAFE_ASSERTED and NSAFE_DEASSERTED (Chapters 4, 5 and 9). During full
reset no line is sampled. -/

namespace Sys2Proof.Machine

/-- CTL_ASSERTED: a sample of the line that sees it asserted (R72). -/
def execCtlAsserted (ch : ChannelId) (s : State) : Out := .next (if s.inFullReset then s else s.sampleLine ch .asserted)

/-- CTL_DEASSERTED: a sample of the line that sees it deasserted (R72). -/
def execCtlDeasserted (ch : ChannelId) (s : State) : Out := .next (if s.inFullReset then s else s.sampleLine ch .deasserted)

/-- NSAFE_ASSERTED: a sample of the line that sees it asserted (R155). -/
def execNsafeAsserted (s : State) : Out := .next (if s.inFullReset then s else s.sampleNsafe .asserted)

/-- NSAFE_DEASSERTED: a sample of the line that sees it deasserted (R155). -/
def execNsafeDeasserted (s : State) : Out := .next (if s.inFullReset then s else s.sampleNsafe .deasserted)

end Sys2Proof.Machine
end

