-- ==== Sys2Proof/Machine/LinkEvents.lean ====
section
/-! DEFINITION. The link port's own happenings (Chapter 11): NOP, UNKNOWN_COMMAND, FRAME_BEGIN and FRAME_REJECTED. -/

namespace Sys2Proof.Machine

/-- NOP reaches no owner and changes nothing (R194). -/
def execNop (f : Frame) (s : State) : Out := .next (linkCommand .nop f s fun s => okWith s {})

/-- UNKNOWN_COMMAND: a frame that passes its check with a code that is none of the 36 (R188). -/
def execUnknownCommand (code : Byte) (f : Frame) (s : State) : Out :=
  .next (if (commandOfCode code).isNone then unknownFrame code f s else s)

/-- FRAME_BEGIN (R184, R190). -/
def execFrameBegin (s : State) : Out := .next (beginFrame s)

/-- FRAME_REJECTED: a frame of the wrong length, or whose check fails (R185 to R187). -/
def execFrameRejected (bits : List Bool) (s : State) : Out :=
  .next (if frameAccepted bits then s else rejectFrame bits s)

end Sys2Proof.Machine
end

