-- ==== Sys2Proof/Machine/ModeCommands.lean ====
section
/-! DEFINITION. The mode controller's commands (Chapter 9): ARM, DISARM, SAFE_STOP, LEAVE_SAFE and SOFT_RESET. -/

namespace Sys2Proof.Machine

/-! ### ARM -/

/-- Why ARM is refused with MODE_REFUSED (R158). -/
inductive ArmReason where
  | mode | condition | session
  deriving DecidableEq, Repr

/-- The coding of ARM's reason (12.8). -/
def armReasonCode : ArmReason → Byte
  | .mode => 1
  | .condition => 2
  | .session => 3

/-- ARM refused with MODE_REFUSED and its reason (R158). -/
def refuseArm (s : State) (r : ArmReason) : State × Answer :=
  (s, { result := .modeRefused, data := { b4 := armReasonCode r } })

/-- ARM at the mode controller (R158). -/
def armPart (s : State) : State × Answer :=
  match s.modes.mode with
  | .loading => refuse s .notReady
  | .suspended => refuseArm s .mode
  | .safe => refuseArm s .mode
  | .armed => okWith s {}
  | .standby =>
    if s.monitor.uvm || s.monitor.ovt then refuseArm s .condition
    else if s.store.session = .isOpen then refuseArm s .session
    else okWith (s.setMode .armed) {}

/-- ARM (R158). -/
def execArm (f : Frame) (s : State) : Out := .next (linkCommand .arm f s armPart)

/-! ### DISARM -/

/-- A release request with source DISARM, issued to a channel that is ENERGIZING or HOLDING (R97). -/
def State.disarmChannel (s : State) (ch : ChannelId) : State :=
  match (s.channel ch).running with
  | none => s
  | some a =>
    match a.seq with
    | .energize => (s.requestRelease ch a .disarm).1
    | .release => s

/-- The set of channels that are ENERGIZING or HOLDING. -/
def State.energizedSet (s : State) : Byte := channelSet fun ch => (s.channel ch).energized

/-- The effect of DISARM on the part (R159): from ARMED, with the releases of R97, issued in the order of the channels
(notes/assumptions/16.md). -/
def State.disarm (s : State) : State :=
  match s.modes.mode with
  | .armed => (allChannels.foldl State.disarmChannel s).setMode .standby
  | .suspended => s.setMode .standby
  | .standby => s
  | .safe => s
  | .loading => s

/-- DISARM at the mode controller (R159). -/
def disarmPart (s : State) : State × Answer :=
  okWith s.disarm { b4 := if s.modes.mode = .armed then s.energizedSet else 0 }

/-- DISARM (R97, R159). -/
def execDisarm (f : Frame) (s : State) : Out := .next (linkCommand .disarm f s disarmPart)

/-! ### SAFE_STOP and LEAVE_SAFE -/

/-- The set of channels that are driving. -/
def State.drivingSet (s : State) : Byte := channelSet fun ch => s.driving ch

/-- SAFE_STOP at the mode controller (R156). -/
def safeStopPart (s : State) : State × Answer :=
  if s.modes.mode = .safe then okWith s {} else okWith s.enterSafe { b4 := s.drivingSet }

/-- SAFE_STOP (R156). -/
def execSafeStop (f : Frame) (s : State) : Out := .next (linkCommand .safeStop f s safeStopPart)

/-- LEAVE_SAFE at the mode controller, in SAFE (R157). -/
def leaveSafePart (s : State) : State × Answer :=
  if s.modes.nsafeSeen = .asserted then refuse s .lineActive else okWith (s.setMode .standby) {}

/-- LEAVE_SAFE (R157). -/
def execLeaveSafe (f : Frame) (s : State) : Out := .next (linkCommand .leaveSafe f s leaveSafePart)

/-! ### SOFT_RESET -/

/-- SOFT_RESET at the mode controller; its own reply is prepared (R163, R193). -/
def softResetPart (s : State) : State × Answer := okWith s.softReset {}

/-- SOFT_RESET (R163). -/
def execSoftReset (f : Frame) (s : State) : Out := .next (linkCommand .softReset f s softResetPart)

end Sys2Proof.Machine
end

