-- ==== Sys2Proof/Machine/MonitorEvents.lean ====
section
/-! DEFINITION. The monitor's happenings (R141, R142): each is a measurement that makes the change its row names; a measurement
that does not make it, and any during full reset, is not that happening (notes/assumptions/5.md). -/

namespace Sys2Proof.Machine

/-- UVM_ONSET, with the VS measured in 10 mV (R141, R142, R144, R160). -/
def execUvmOnset (vs : Nat) (s : State) : Out :=
  .next (if !s.inFullReset ∧ !s.monitor.uvm ∧ vs < Config.uvmOnsetBelow then s.measureVs vs else s)

/-- UVM_CLEARS, with the VS measured in 10 mV (R141, R142, R161). -/
def execUvmClears (vs : Nat) (s : State) : Out :=
  .next (if !s.inFullReset ∧ s.monitor.uvm ∧ Config.uvmClearsAbove < vs then s.measureVs vs else s)

/-- OVT_ONSET, with the die temperature in °C (R141, R142, R144, R160). -/
def execOvtOnset (temp : Int) (s : State) : Out :=
  .next (if !s.inFullReset ∧ !s.monitor.ovt ∧ Config.ovtOnsetFrom ≤ temp then s.measureTemp temp else s)

/-- OVT_CLEARS, with the die temperature in °C (R141, R142, R161). -/
def execOvtClears (temp : Int) (s : State) : Out :=
  .next (if !s.inFullReset ∧ s.monitor.ovt ∧ temp < Config.ovtClearsBelow then s.measureTemp temp else s)

/-- PROG_OK_TRUE, with the VS measured in 10 mV (R141). -/
def execProgOkTrue (vs : Nat) (s : State) : Out :=
  .next (if !s.inFullReset ∧ !s.monitor.progOk ∧ Config.progOkFrom ≤ vs then s.measureVs vs else s)

/-- PROG_OK_FALSE, with the VS measured in 10 mV (R141, R142, R171). -/
def execProgOkFalse (vs : Nat) (s : State) : Out :=
  .next (if !s.inFullReset ∧ s.monitor.progOk ∧ vs < Config.progOkLostBelow then s.measureVs vs else s)

end Sys2Proof.Machine
end

