-- ==== Sys2Proof/Machine/PeriodEvents.lean ====
section
/-! DEFINITION. What time brings: STORE_WRITE_COMPLETE, REGULATION_PERIOD and the steps that fall due at a period's end, the
overcurrent trip and the end of the stretch. A happening that is not due, and any during full reset, changes nothing
(notes/assumptions/4.md and 5.md). -/

namespace Sys2Proof.Machine

/-- STORE_WRITE_COMPLETE, when the 3 ms of the write in flight have passed (R174, R175). -/
def execStoreWriteComplete (s : State) : Out :=
  .next (if s.inFullReset then s else { s with store := s.store.settleWrite })

/-- REGULATION_PERIOD (R82). -/
def execRegulationPeriod (p : Period) (s : State) : Out :=
  .next
    (if s.inFullReset then s
    else match p with
      | .channel ch r => s.channelPeriod ch r
      | .shared vs vdd temp nsafe => s.sharedPeriod vs vdd temp nsafe)

/-- The running actuation of a channel, outside full reset. -/
def State.runningNow (s : State) (ch : ChannelId) : Option Actuation :=
  if s.inFullReset then none else (s.channel ch).running

/-- PHASE_END: the last period of the phase at the cursor was its last (R83); a held release whose min_on that period reached
decides (R95). -/
def execPhaseEnd (ch : ChannelId) (s : State) : Out :=
  .next
    (match s.runningNow ch with
    | none => s
    | some a =>
      if !s.phaseDue ch a then s
      else if s.minOnDue a then s.takeHeld ch a
      else s.endPhase ch)

/-- HOLD_EXPIRED: the open-ended phase has reached its hold cap (R90); a held release whose min_on that period reached
decides (R90, R95). -/
def execHoldExpired (ch : ChannelId) (s : State) : Out :=
  .next
    (match s.runningNow ch with
    | none => s
    | some a =>
      if !s.holdDue a then s
      else if s.minOnDue a then s.takeHeld ch a
      else s.enterRelease ch .holdExpired)

/-- MIN_ON_REACHED: the held release takes effect (R95). -/
def execMinOnReached (ch : ChannelId) (s : State) : Out :=
  .next
    (match s.runningNow ch with
    | none => s
    | some a => if s.minOnDue a then s.takeHeld ch a else s)

/-- DIP_CONFIRMED (R109). -/
def execDipConfirmed (ch : ChannelId) (s : State) : Out :=
  .next
    (match s.runningNow ch with
    | none => s
    | some a => s.takeDip ch a)

/-- RESISTANCE_SAMPLE (R114, R115). -/
def execResistanceSample (ch : ChannelId) (s : State) : Out :=
  .next
    (match s.runningNow ch with
    | none => s
    | some a => s.takeSample ch a)

/-- OPEN_LOAD_LATCH_SET (R139). -/
def execOpenLoadLatchSet (ch : ChannelId) (s : State) : Out :=
  .next (if !s.inFullReset ∧ s.openLoadDue ch then s.latchOpenLoad ch else s)

/-- OVERCURRENT_TRIP, on a stage that is watched once what the last period made due is taken (R136). -/
def execOvercurrentTrip (ch : ChannelId) (s : State) : Out :=
  .next (if !s.inFullReset ∧ (s.settleDue ch).watched ch then (s.settleDue ch).trip ch else s)

/-- STRETCH_EXPIRED: the timer has reached 0 and stops (R150). -/
def execStretchExpired (s : State) : Out :=
  .next (if s.inFullReset then s else { s with faults := { s.faults with timer := settleStretch s.faults.timer } })

end Sys2Proof.Machine
end

