-- ==== Sys2Proof/Machine/Checks.lean ====
section
/-! DEFINITION. The acceptance checker (Chapter 3): the eleven checks A1 to A11 over a draft's shape, and nothing else (R46). -/

namespace Sys2Proof.Machine

/-- A phase position: a sequence and an index (R45). -/
abbrev Position := Seq × Nat

/-- The result of a run: PASS, or a check number and a phase position or none (R45). -/
inductive CheckResult where
  | pass
  | fail (check : Nat) (pos : Option Position)
  deriving DecidableEq, Repr

/-- A judged check: `none` where the draft meets it, and the position to report where it does not. -/
abbrev Judgment := Option (Option Position)

/-- An entry with its place. -/
abbrev Placed := Position × PhaseEntry

/-- The energize entries with their places, head first. -/
def Shape.energizeScan (sh : Shape) : List Placed := sh.energize.zipIdx.map fun e => ((.energize, e.2), e.1)

/-- The release entries with their places, head first. -/
def Shape.releaseScan (sh : Shape) : List Placed := sh.release.zipIdx.map fun e => ((.release, e.2), e.1)

/-- Scan order: the energize sequence, then the release sequence (R47). -/
def Shape.scan (sh : Shape) : List Placed := sh.energizeScan ++ sh.releaseScan

/-- A check that fails at the first entry in a scan which breaks it. -/
def failAtFirst (scan : List Placed) (breaks : Placed → Bool) : Judgment :=
  (scan.find? breaks).map fun e => some e.1

/-- A check that fails with position none. -/
def failWithNone (fails : Bool) : Judgment := if fails then some none else none

/-- Whether a kind drives the coil, and so belongs in the energize sequence (R49). -/
def PhaseKind.drives : PhaseKind → Bool
  | .rampCurrent => true
  | .holdCurrent => true
  | .driveDuty => true
  | .fastDecay => false
  | .coast => false

/-- A1: an energize sequence of 1 to 6 entries (R48). -/
def checkA1 (sh : Shape) : Judgment :=
  failWithNone (sh.energize.isEmpty || decide (Config.maxEnergize < sh.energize.length))

/-- A2: each kind in its own sequence (R49). -/
def checkA2 (sh : Shape) : Judgment :=
  failAtFirst sh.scan fun e => decide (e.2.kind.drives ≠ decide (e.1.1 = .energize))

/-- A3: a duration of 0 only on the last energize entry, a hold or a duty (R50). -/
def checkA3 (sh : Shape) : Judgment :=
  failAtFirst sh.scan fun e =>
    decide (e.2.duration = 0) &&
      match e.1.1 with
      | .release => true
      | .energize =>
        decide (e.1.2 + 1 ≠ sh.energize.length) || !(decide (e.2.kind = .holdCurrent) || decide (e.2.kind = .driveDuty))

/-- Whether a driving entry exceeds a limit on its levels (R51). -/
def overLimit (e : PhaseEntry) : Bool :=
  match e.kind with
  | .rampCurrent => decide (400 < e.level) || e.start.any (400 < ·)
  | .holdCurrent => decide ((if e.duration = 0 then 300 else 400) < e.level)
  | .driveDuty => decide (e.duration = 0) && decide (192 < e.level)
  | .fastDecay => false
  | .coast => false

/-- A4: the level limits (R51). -/
def checkA4 (sh : Shape) : Judgment := failAtFirst sh.scan fun e => overLimit e.2

/-- Whether the energize entry before a position is a duty drive (R52). -/
def afterDuty (sh : Shape) (i : Nat) : Bool :=
  match i with
  | 0 => false
  | k + 1 => sh.energize[k]?.any fun e => decide (e.kind = .driveDuty)

/-- A5: a start level on a ramp at the head, and on a ramp after a duty drive (R52). -/
def checkA5 (sh : Shape) : Judgment :=
  failAtFirst sh.energizeScan fun e =>
    decide (e.2.kind = .rampCurrent) && (decide (e.1.2 = 0) || afterDuty sh e.1.2) && e.2.start.isNone

/-- Whether a HIT-marked entry is badly placed (R53). -/
def badHit (e : PhaseEntry) : Bool :=
  !(decide (e.kind = .rampCurrent) || decide (e.kind = .holdCurrent)) || decide (e.duration = 0)

/-- A6: the first HIT-marked entry that follows another, or is badly placed (R53). -/
def checkA6 (sh : Shape) : Judgment :=
  let marked := sh.scan.filter fun e => e.2.hit
  match marked with
  | [] => none
  | e :: rest =>
    if badHit e.2 then some (some e.1)
    else match rest with
      | [] => none
      | e' :: _ => some (some e'.1)

/-- The first marked energize entry that an unmarked entry separates from the run's beginning (R54). -/
def brokenRun (sh : Shape) : Judgment :=
  let run := sh.energizeScan.dropWhile fun e => !e.2.motion
  failAtFirst (run.dropWhile fun e => e.2.motion) fun e => e.2.motion

/-- A7: the MOTION marks against the dip threshold (R54). -/
def checkA7 (sh : Shape) : Judgment :=
  match sh.fields.dipThreshold with
  | none => failAtFirst sh.scan fun e => e.2.motion
  | some _ =>
    match brokenRun sh with
    | some p => some p
    | none =>
      match failAtFirst sh.releaseScan (fun e => e.2.motion) with
      | some p => some p
      | none => failWithNone (!sh.energize.any fun e => e.motion)

/-- A8: a travel window with a dip threshold, its bounds in order (R55). -/
def checkA8 (sh : Shape) : Judgment :=
  match sh.fields.travelWindow with
  | none => none
  | some w => failWithNone (sh.fields.dipThreshold.isNone || decide (w.hi < w.lo))

/-- A9: a resistance window on an open-ended hold, its bounds in order (R56). -/
def checkA9 (sh : Shape) : Judgment :=
  match sh.fields.resistanceWindow with
  | none => none
  | some w =>
    match sh.energize.getLast? with
    | none => some none
    | some e =>
      if e.kind = .holdCurrent ∧ e.duration = 0 then failWithNone (decide (w.hi < w.lo))
      else some (some (.energize, sh.energize.length - 1))

/-- The position at which the running sum of the durations first passes 65535 (R57). -/
def sumPasses (sum : Nat) : List Placed → Judgment
  | [] => none
  | e :: rest =>
    if Config.max16 < sum + e.2.duration then some (some e.1) else sumPasses (sum + e.2.duration) rest

/-- A10: the fixed energize time, an open-ended entry adding nothing (R57). -/
def checkA10 (sh : Shape) : Judgment := sumPasses 0 sh.energizeScan

/-- A11: min_on within a self-timed run (R58). -/
def checkA11 (sh : Shape) : Judgment :=
  failWithNone
    (!(sh.energize.any fun e => decide (e.duration = 0)) &&
      decide ((sh.energize.map fun e => e.duration).sum < sh.fields.minOn))

/-- The eleven checks with their numbers, in order (R47). -/
def judgments (sh : Shape) : List (Nat × Judgment) :=
  [(1, checkA1 sh), (2, checkA2 sh), (3, checkA3 sh), (4, checkA4 sh), (5, checkA5 sh), (6, checkA6 sh), (7, checkA7 sh),
   (8, checkA8 sh), (9, checkA9 sh), (10, checkA10 sh), (11, checkA11 sh)]

/-- The first failure among judged checks (R47). -/
def firstFailure : List (Nat × Judgment) → CheckResult
  | [] => .pass
  | (n, some pos) :: _ => .fail n pos
  | (_, none) :: rest => firstFailure rest

/-- A run of the checker on a shape (R45, R46, R47). -/
def runChecks (sh : Shape) : CheckResult := firstFailure (judgments sh)

end Sys2Proof.Machine
end

