-- ==== Sys2Proof/Machine/ProfileCommands.lean ====
section
/-! DEFINITION. The profile table's commands (Chapters 1 and 7): OPEN_DRAFT, DISCARD_DRAFT, COMMIT, RETIRE, READ_TABLE_MAP,
READ_PROFILE and CLEAR_WITHHELD. -/

namespace Sys2Proof.Machine

/-- A command that names a profile checks the id before anything else (R2). -/
def withProfile (b : Byte) (s : State) (k : ProfileId → State × Answer) : State × Answer :=
  match profileId? b with
  | none => refuse s .badTarget
  | some p => k p

/-- The reply of a command that changes a draft's pool entries: a count of entries, and the pool's free count after it. -/
def okEntries (s : State) (n : Nat) : State × Answer := okWith s { b4 := byteOf n, b5 := byteOf s.free }

/-! ### OPEN_DRAFT -/

/-- A NEW profile with an empty draft; its failure run is 0 and it is not withheld (R9). -/
def State.openEmpty (s : State) (p : ProfileId) : State :=
  s.setProfile p { (s.profile p).cleared with draft := some Shape.empty }

/-- A copy of the live version as a draft, its entries taken from the pool (R10, R44). -/
def State.openCopy (s : State) (p : ProfileId) (v : Version) : State :=
  (s.setDraft p v.shape).allocate v.shape.size

/-- OPEN_DRAFT at the table (R9, R10). -/
def openDraft (f : Frame) (s : State) : State × Answer :=
  withProfile f.b2 s fun p =>
    if (s.profile p).draft.isSome then refuse s .draftExists
    else match (s.profile p).live with
      | none => okEntries (s.openEmpty p) 0
      | some v => if s.free < v.shape.size then refuse s .poolFull else okEntries (s.openCopy p v) v.shape.size

/-- OPEN_DRAFT (R9, R10). -/
def execOpenDraft (f : Frame) (s : State) : Out := .next (linkCommand .openDraft f s (openDraft f))

/-! ### DISCARD_DRAFT -/

/-- DISCARD_DRAFT at the table (R11, R12). -/
def discardDraft (f : Frame) (s : State) : State × Answer :=
  withProfile f.b2 s fun p =>
    match (s.profile p).draft with
    | none => refuse s .noDraft
    | some d => okEntries (s.discard p) d.size

/-- DISCARD_DRAFT (R11). -/
def execDiscardDraft (f : Frame) (s : State) : Out := .next (linkCommand .discardDraft f s (discardDraft f))

/-! ### COMMIT -/

/-- What becomes of a displaced live version: with engagements it drains, and otherwise it is gone (R15). -/
def displaced (old : Option Version) : Option Version :=
  match old with
  | none => none
  | some v => if v.engaged = 0 then none else some v

/-- The entries that a displaced live version frees at once (R15). -/
def freedByCommit (old : Option Version) : Nat :=
  match old with
  | none => 0
  | some v => if v.engaged = 0 then v.shape.size else 0

/-- A profile whose draft is made live (R5, R14, R15). -/
def Profile.committed (e : Profile) (d : Shape) : Profile :=
  { e with
    live := some { gen := e.highWater + 1, shape := d, engaged := 0 }
    draft := none
    draining := displaced e.live
    highWater := e.highWater + 1
    failureRun := 0
    withheld := false }

/-- The draft of a profile made live in one step (R14, R15). -/
def State.makeLive (s : State) (p : ProfileId) (d : Shape) : State :=
  (s.setProfile p ((s.profile p).committed d)).freeEntries (freedByCommit (s.profile p).live)

/-- The reply data of a failed check: its number and its position (R59, R60). -/
def checkFailure (n : Nat) (pos : Option Position) : ReplyData := { b4 := byteOf n, b5 := positionByte pos }

/-- COMMIT at the table (R13 to R15, R60). -/
def commit (f : Frame) (s : State) : State × Answer :=
  withProfile f.b2 s fun p =>
    match (s.profile p).draft with
    | none => refuse s .noDraft
    | some d =>
      if (s.profile p).draining.isSome then refuse s .drainPending
      else if Config.maxGeneration ≤ (s.profile p).highWater then refuse s .genLimit
      else match runChecks d with
        | .fail n pos => (s, { result := .checkFailed, data := checkFailure n pos })
        | .pass =>
          okWith (s.makeLive p d)
            { b4 := hiByte ((s.profile p).highWater + 1), b5 := loByte ((s.profile p).highWater + 1) }

/-- COMMIT (R13 to R15). -/
def execCommit (f : Frame) (s : State) : Out := .next (linkCommand .commit f s (commit f))

/-! ### RETIRE -/

/-- The entries that RETIRE frees: those of the live version and of the draft (R18). -/
def Profile.retiredEntries (e : Profile) : Nat := versionSize e.live + draftSize e.draft

/-- A profile that becomes ABSENT by RETIRE; its high-water mark is kept (R12, R18). -/
def State.retireProfile (s : State) (p : ProfileId) : State :=
  (s.setProfile p { (s.profile p).cleared with live := none, draft := none }).freeEntries (s.profile p).retiredEntries

/-- RETIRE at the table (R18). -/
def retire (f : Frame) (s : State) : State × Answer :=
  withProfile f.b2 s fun p =>
    if (s.profile p).state = .absent then refuse s .noProfile
    else if (s.profile p).bindingCount ≠ 0 then refuse s .inUse
    else okEntries (s.retireProfile p) (s.profile p).retiredEntries

/-- RETIRE (R18). -/
def execRetire (f : Frame) (s : State) : Out := .next (linkCommand .retire f s (retire f))

/-! ### READ_TABLE_MAP -/

/-- A set of profiles as b4 to b7 of a reply: b7 bit 0 is P1 (12.4). -/
def profileSetData (set : ProfileId → Bool) : ReplyData :=
  let n := profileSet set
  { b4 := byteOf (n / 16777216), b5 := byteOf (n / 65536), b6 := byteOf (n / 256), b7 := byteOf n }

/-- READ_TABLE_MAP at the table (R19). -/
def readTableMap (f : Frame) (s : State) : State × Answer :=
  if f.b2 = 1 then okWith s (profileSetData fun p => (s.profile p).live.isSome)
  else if f.b2 = 2 then okWith s (profileSetData fun p => (s.profile p).draft.isSome)
  else if f.b2 = 3 then okWith s (profileSetData fun p => (s.profile p).draining.isSome)
  else if f.b2 = 4 then okWith s (profileSetData fun p => (s.profile p).withheld)
  else refuse s .badParam

/-- READ_TABLE_MAP (R19). -/
def execReadTableMap (f : Frame) (s : State) : Out := .next (linkCommand .readTableMap f s (readTableMap f))

/-! ### READ_PROFILE -/

/-- The group of a version that READ_PROFILE returns, other than ENTRY; none for a group that there is not (R20, 12.5). -/
def versionGroup (group : Byte) (v : Nat × Nat × Shape) : Option ReplyData :=
  if group = 2 then some (shapeData v.1 v.2.1 v.2.2)
  else if group = 3 then some (timingData v.2.2.fields)
  else if group = 4 then some (motionData v.2.2.fields)
  else if group = 5 then some (resistanceData v.2.2.fields)
  else none

/-- READ_PROFILE at the table (R20). -/
def readProfile (f : Frame) (s : State) : State × Answer :=
  withProfile f.b2 s fun p =>
    match versionSelector? f.b3 with
    | none => refuse s .badParam
    | some sel =>
      if f.b4 = 1 then okWith s (profileEntryData (s.profile p))
      else if f.b4.toNat < 2 ∨ 5 < f.b4.toNat then refuse s .badParam
      else match (s.profile p).select sel with
        | none => refuse s .noVersion
        | some v => okWith s ((versionGroup f.b4 v).getD {})

/-- READ_PROFILE (R20). -/
def execReadProfile (f : Frame) (s : State) : Out := .next (linkCommand .readProfile f s (readProfile f))

/-! ### CLEAR_WITHHELD -/

/-- CLEAR_WITHHELD at the table (R131). -/
def clearWithheld (f : Frame) (s : State) : State × Answer :=
  withProfile f.b2 s fun p =>
    if (s.profile p).live.isNone then refuse s .noProfile
    else okWith (s.setProfile p (s.profile p).cleared)
      { b4 := byteOf (s.profile p).failureRun, b5 := byteOf (bit (s.profile p).withheld) }

/-- CLEAR_WITHHELD (R131). -/
def execClearWithheld (f : Frame) (s : State) : Out := .next (linkCommand .clearWithheld f s (clearWithheld f))

end Sys2Proof.Machine
end

