-- ==== Sys2Proof/Machine/PhaseCommands.lean ====
section
/-! DEFINITION. The commands that edit and read drafts and the pool (Chapters 2 and 3): SET_PHASE, INSERT_PHASE, DELETE_PHASE,
SET_FIELDS, READ_PHASE, READ_POOL and CHECK_DRAFT. -/

namespace Sys2Proof.Machine

/-- A command on the draft of the profile it names: BAD_TARGET, then NO_DRAFT (R33, R59). -/
def withDraft (b : Byte) (s : State) (k : ProfileId → Shape → State × Answer) : State × Answer :=
  withProfile b s fun p =>
    match (s.profile p).draft with
    | none => refuse s .noDraft
    | some d => k p d

/-- The reply of a phase edit: the sequence's count in the draft, and the pool's free count (R34, R35, R37). -/
def okCount (s : State) (d : Shape) (q : Seq) : State × Answer := okEntries s (d.seqOf q).length

/-! ### SET_PHASE, INSERT_PHASE, DELETE_PHASE, SET_FIELDS -/

/-- A shape with the entry at one position rewritten (R34). -/
def Shape.setEntry (d : Shape) (q : Seq) (i : Nat) (e : PhaseEntry) : Shape := d.withSeq q ((d.seqOf q).set i e)

/-- A shape with an entry inserted at one position (R35). -/
def Shape.insertEntry (d : Shape) (q : Seq) (i : Nat) (e : PhaseEntry) : Shape :=
  d.withSeq q ((d.seqOf q).insertIdx i e)

/-- A shape with the entry at one position removed (R37). -/
def Shape.deleteEntry (d : Shape) (q : Seq) (i : Nat) : Shape := d.withSeq q ((d.seqOf q).eraseIdx i)

/-- SET_PHASE at the table (R33, R34). -/
def setPhase (f : Frame) (s : State) : State × Answer :=
  withDraft f.b2 s fun p d =>
    let q := positionSeq f.b3
    let i := positionIndex f.b3
    match entryOf f with
    | none => refuse s .badParam
    | some e =>
      if (d.seqOf q).length ≤ i then refuse s .badParam
      else okCount (s.setDraft p (d.setEntry q i e)) (d.setEntry q i e) q

/-- SET_PHASE (R34). -/
def execSetPhase (f : Frame) (s : State) : Out := .next (linkCommand .setPhase f s (setPhase f))

/-- INSERT_PHASE at the table (R33, R35, R36). -/
def insertPhase (f : Frame) (s : State) : State × Answer :=
  withDraft f.b2 s fun p d =>
    let q := positionSeq f.b3
    let i := positionIndex f.b3
    match entryOf f with
    | none => refuse s .badParam
    | some e =>
      if (d.seqOf q).length < i then refuse s .badParam
      else if maxCount q ≤ (d.seqOf q).length then refuse s .seqFull
      else if s.free = 0 then refuse s .poolFull
      else okCount ((s.setDraft p (d.insertEntry q i e)).allocate 1) (d.insertEntry q i e) q

/-- INSERT_PHASE (R35, R36). -/
def execInsertPhase (f : Frame) (s : State) : Out := .next (linkCommand .insertPhase f s (insertPhase f))

/-- DELETE_PHASE at the table (R33, R37). -/
def deletePhase (f : Frame) (s : State) : State × Answer :=
  withDraft f.b2 s fun p d =>
    let q := positionSeq f.b3
    let i := positionIndex f.b3
    if (d.seqOf q).length ≤ i then refuse s .badParam
    else okCount ((s.setDraft p (d.deleteEntry q i)).freeEntries 1) (d.deleteEntry q i) q

/-- DELETE_PHASE (R37). -/
def execDeletePhase (f : Frame) (s : State) : Out := .next (linkCommand .deletePhase f s (deletePhase f))

/-- SET_FIELDS at the table (R33, R38, R39). -/
def setFields (f : Frame) (s : State) : State × Answer :=
  withDraft f.b2 s fun p d =>
    match fieldsOf f d.fields with
    | none => refuse s .badParam
    | some v => okWith (s.setDraft p { d with fields := v }) {}

/-- SET_FIELDS (R38, R39). -/
def execSetFields (f : Frame) (s : State) : Out := .next (linkCommand .setFields f s (setFields f))

/-! ### READ_PHASE, READ_POOL, CHECK_DRAFT -/

/-- READ_PHASE at the table (R41). -/
def readPhase (f : Frame) (s : State) : State × Answer :=
  withProfile f.b2 s fun p =>
    match versionSelector? f.b3 with
    | none => refuse s .badParam
    | some sel =>
      match (s.profile p).select sel with
      | none => refuse s .noVersion
      | some v =>
        let es := v.2.2.seqOf (positionSeq f.b4)
        match es[positionIndex f.b4]? with
        | none => refuse s .badParam
        | some e => okWith s (entryData e es.length)

/-- READ_PHASE (R41). -/
def execReadPhase (f : Frame) (s : State) : Out := .next (linkCommand .readPhase f s (readPhase f))

/-- READ_POOL at the table (R42). -/
def readPool (s : State) : State × Answer :=
  okWith s
    { b4 := byteOf s.free, b5 := byteOf s.heldLive, b6 := byteOf s.heldDrafts, b7 := byteOf s.heldDraining }

/-- READ_POOL (R42). -/
def execReadPool (f : Frame) (s : State) : Out := .next (linkCommand .readPool f s readPool)

/-- CHECK_DRAFT at the table (R59). -/
def checkDraft (f : Frame) (s : State) : State × Answer :=
  withDraft f.b2 s fun _ d =>
    match runChecks d with
    | .pass => okWith s {}
    | .fail n pos => (s, { result := .checkFailed, data := checkFailure n pos })

/-- CHECK_DRAFT (R59). -/
def execCheckDraft (f : Frame) (s : State) : Out := .next (linkCommand .checkDraft f s (checkDraft f))

end Sys2Proof.Machine
end

