-- ==== Sys2Proof/Machine/ResetEvents.lean ====
section
/-! DEFINITION. Full reset and the power-up load (R143, R179 to R181): FULL_RESET, FULL_RESET_END, LOAD_PROFILE_SLOT,
LOAD_MAP_SLOT and LOAD_LOCK_SLOT. -/

namespace Sys2Proof.Machine

/-! ### Full reset -/

/-- Whether what is reported holds the part in full reset (R143). -/
def resetHolds : ResetCause → Bool
  | .powerOn => true
  | .vdd vdd => decide (vdd < Config.vddAdequateFrom)
  | .nReset => true

/-- FULL_RESET (R143). -/
def execFullReset (cause : ResetCause) (s : State) : Out := .next (if resetHolds cause then s.toFullReset else s)

/-- FULL_RESET_END: VDD is adequate and nRESET is high, so the full reset ends and LOADING begins (R143). -/
def execFullResetEnd (vdd : Nat) (nResetHigh : Bool) (s : State) : Out :=
  .next (if Config.vddAdequateFrom ≤ vdd ∧ nResetHigh then { s with inFullReset := false } else s)

/-! ### The loader -/

/-- Whether the loader works: the part is in LOADING, and not in full reset. -/
def State.loading (s : State) : Bool := !s.inFullReset && decide (s.modes.mode = .loading)

/-- The loader goes on to its next slot. -/
def State.nextSlot (s : State) : State := { s with loader := { s.loader with next := s.loader.next + 1 } }

/-- The copy states of a slot entered in the record (R179). -/
def State.recordSlot (s : State) (slot : Slot) : State := { s with store := s.store.recordSlot slot }

/-- A profile filled from a stored copy (R22). -/
def Profile.filled (e : Profile) (gen : Nat) (sh : Shape) : Profile :=
  { e with
    live := some { gen := gen, shape := sh, engaged := 0 }
    highWater := gen
    failureRun := 0
    withheld := false }

/-- The table fills a profile, or refuses for want of entries (R22). The id is ABSENT then; a fill of an id that has a live
version is refused too (notes/assumptions/29.md). -/
def State.fill (s : State) (p : ProfileId) (gen : Nat) (sh : Shape) : State :=
  if (s.profile p).live.isSome ∨ s.free < sh.size then s
  else
    let s := (s.setProfile p ((s.profile p).filled gen sh)).allocate sh.size
    { s with loader := { s.loader with loaded := s.loader.loaded.set p.val true p.isLt } }

/-- A profile slot's work: its states recorded, and its id filled from the highest-numbered valid copy (R179). -/
def State.loadProfile (s : State) (p : ProfileId) : State :=
  let s := s.recordSlot (profileSlot p)
  match s.store.newestValid (profileSlot p) with
  | some (.profile _ gen sh) => s.fill p gen sh
  | some (.map _ _) => s
  | some .lockMark => s
  | none => s

/-- LOAD_PROFILE_SLOT, at the loader's next slot (R179). -/
def execLoadProfileSlot (s : State) : Out :=
  .next
    (if h : s.loader.next < 32 then
      if s.loading then (s.loadProfile ⟨s.loader.next, h⟩).nextSlot else s
    else s)

/-- What the map copy stores for a channel, applied (R180). -/
def State.applyMapEntry (s : State) (ch : ChannelId) (m : MapEntry) : State :=
  let s := s.applySettings ch m.trigger m.openLoadCheck
  match m.binding with
  | none => s
  | some p => if s.loader.loaded.get p then (s.bindTo ch p).settleEdge ch else s

/-- A map copy applied to the eight channels (R180). -/
def State.applyMap (s : State) (entries : Vector MapEntry 8) : State :=
  allChannels.foldl (fun s ch => s.applyMapEntry ch (entries.get ch)) s

/-- Whether no binding of a map copy is dropped: every id it names loaded (R180). -/
def noneDropped (loaded : Vector Bool 32) (entries : Vector MapEntry 8) : Bool :=
  allChannels.all fun ch => (entries.get ch).binding.all fun p => loaded.get p

/-- The map slot's work: its states recorded, the highest-numbered valid copy applied, and the arm request made (R180). -/
def State.loadMap (s : State) : State :=
  let s := s.recordSlot mapSlot
  match s.store.newestValid mapSlot with
  | some (.map entries arm) =>
    let request : ArmRequest := if arm && noneDropped s.loader.loaded entries then .armAtStart else .stay
    let s := s.applyMap entries
    { s with loader := { s.loader with request := request } }
  | some (.profile _ _ _) => s
  | some .lockMark => s
  | none => s

/-- LOAD_MAP_SLOT (R180). -/
def execLoadMapSlot (s : State) : Out :=
  .next (if s.loading ∧ s.loader.next = 32 then s.loadMap.nextSlot else s)

/-- The mode that follows LOADING (R162). -/
def State.modeAfterLoading (s : State) : PartMode :=
  if s.modes.nsafeRemembered then .safe
  else if s.loader.request = .stay then .standby
  else if s.monitor.uvm || s.monitor.ovt then .standby
  else .armed

/-- The lock slot's work: its states recorded, the locked state set from them, and the mode chosen (R162, R181). -/
def State.loadLock (s : State) : State :=
  let s := s.recordSlot lockSlot
  let s := { s with store := { s.store with locked := (s.store.newestValid lockSlot).isSome } }
  s.setMode s.modeAfterLoading

/-- LOAD_LOCK_SLOT (R181). -/
def execLoadLockSlot (s : State) : Out :=
  .next (if s.loading ∧ s.loader.next = 33 then s.loadLock.nextSlot else s)

end Sys2Proof.Machine
end

