-- ==== Sys2Proof/Machine/StoreCommands.lean ====
section
/-! DEFINITION. The profile store's commands (Chapter 10): STORE_OPEN, STORE_CLOSE, the three writes and STORE_QUERY. -/

namespace Sys2Proof.Machine

/-- The state with the store replaced. -/
def State.setStore (s : State) (st : Store) : State := { s with store := st }

/-! ### Sessions -/

/-- STORE_OPEN's reply data: the session state after it, and the locked state (R169, 12.8). -/
def sessionData (st : Store) : ReplyData := { b4 := byteOf (sessionCode st.session), b5 := byteOf (bit st.locked) }

/-- STORE_OPEN at the store, in STANDBY (R169). -/
def openSession (s : State) : State × Answer :=
  if s.store.locked then refuse s .locked
  else if !s.monitor.progOk then refuse s .lowSupply
  else if s.store.inFlight.isSome then refuse s .storeBusy
  else
    let t := s.setStore { s.store with session := .isOpen }
    okWith t (sessionData t.store)

/-- STORE_OPEN (R169). -/
def execStoreOpen (f : Frame) (s : State) : Out := .next (linkCommand .storeOpen f s openSession)

/-- STORE_CLOSE at the store (R170). -/
def closeSession (s : State) : State × Answer :=
  if s.store.inFlight.isSome then refuse s .storeBusy
  else if s.store.session = .closed then refuse s .storeClosed
  else okWith (s.setStore { s.store with session := .closed }) {}

/-- STORE_CLOSE (R170). -/
def execStoreClose (f : Frame) (s : State) : Out := .next (linkCommand .storeClose f s closeSession)

/-! ### Writes -/

/-- A write needs an OPEN session and no write in flight (R172 to R174). -/
def withSession (s : State) (k : State × Answer) : State × Answer :=
  if s.store.session ≠ .isOpen then refuse s .storeClosed
  else if s.store.inFlight.isSome then refuse s .storeBusy
  else k

/-- A snapshot accepted into the lowest blank copy of its slot; `data` lays the reply out from the copy number (R172 to R175). -/
def acceptWrite (s : State) (slot : Slot) (snapshot : CopyContent) (data : Nat → ReplyData) : State × Answer :=
  match s.store.lowestBlank slot with
  | none => refuse s .slotExhausted
  | some copy => (s.setStore (s.store.beginWrite slot copy snapshot), { result := .accepted, data := data copy })

/-- STORE_WRITE_PROFILE at the store (R21, R172). -/
def writeProfile (f : Frame) (s : State) : State × Answer :=
  withProfile f.b2 s fun p =>
    withSession s
      (match (s.profile p).live with
      | none => refuse s .noProfile
      | some v =>
        acceptWrite s (profileSlot p) (.profile p v.gen v.shape) fun copy =>
          { b4 := byteOf copy, b5 := hiByte v.gen, b6 := loByte v.gen })

/-- STORE_WRITE_PROFILE (R172). -/
def execStoreWriteProfile (f : Frame) (s : State) : Out := .next (linkCommand .storeWriteProfile f s (writeProfile f))

/-- What a map copy takes of a channel: an unbind-pending binding is taken as none (R68, R173). -/
def Channel.mapEntry (c : Channel) : MapEntry :=
  { binding := if c.unbindPending then none else c.binding, trigger := c.trigger, openLoadCheck := c.openLoadCheck }

/-- The snapshot of the eight channel records, with the arm-at-start flag (R173). -/
def State.mapSnapshot (s : State) (arm : Bool) : CopyContent := .map (s.channels.map Channel.mapEntry) arm

/-- STORE_WRITE_MAP at the store (R173). -/
def writeMap (f : Frame) (s : State) : State × Answer :=
  withSession s (acceptWrite s mapSlot (s.mapSnapshot (f.b2.getLsbD 0)) fun copy => { b4 := byteOf copy })

/-- STORE_WRITE_MAP (R173). -/
def execStoreWriteMap (f : Frame) (s : State) : Out := .next (linkCommand .storeWriteMap f s (writeMap f))

/-- STORE_LOCK at the store (R174). -/
def writeLock (s : State) : State × Answer :=
  withSession s (acceptWrite s lockSlot .lockMark fun copy => { b4 := byteOf copy })

/-- STORE_LOCK (R174). -/
def execStoreLock (f : Frame) (s : State) : Out := .next (linkCommand .storeLock f s writeLock)

/-! ### STORE_QUERY -/

/-- STORE_QUERY's reply data (R178, 12.8). -/
def queryData (st : Store) (slot : Slot) : ReplyData :=
  let cs := st.states slot
  let gen := st.newestGeneration slot
  let w := inFlightCode st.inFlight
  let r := resultCodes st.lastResult
  { b4 := 0#2 ++ BitVec.ofNat 2 (copyStateCode cs[2]?) ++ BitVec.ofNat 2 (copyStateCode cs[1]?) ++
      BitVec.ofNat 2 (copyStateCode cs[0]?)
    b5 := hiByte gen, b6 := loByte gen
    b7 := 0#3 ++ BitVec.ofBool st.locked ++ BitVec.ofNat 2 (sessionCode st.session) ++ BitVec.ofNat 2 (st.blanks slot)
    b8 := byteOf w.1
    b9 := 0#2 ++ BitVec.ofNat 2 r.1 ++ BitVec.ofNat 2 r.2.2 ++ BitVec.ofNat 2 w.2
    b10 := byteOf r.2.1 }

/-- STORE_QUERY at the store (R178). -/
def queryStore (f : Frame) (s : State) : State × Answer :=
  match slotOfCode f.b2 with
  | none => refuse s .badTarget
  | some slot => okWith s (queryData s.store slot)

/-- STORE_QUERY (R178). -/
def execStoreQuery (f : Frame) (s : State) : Out := .next (linkCommand .storeQuery f s (queryStore f))

end Sys2Proof.Machine
end

