-- ==== Sys2Proof/Machine/Dispatch.lean ====
section
/-! DEFINITION. The dispatch of a command to its meaning: one arm for each row of spec/opcode_table.json. -/

namespace Sys2Proof.Machine

def exec (i : Instr) (s : State) : Host.Outcome State Fault Refusal :=
  match i with
  | .openDraft f => Sys2Proof.Machine.execOpenDraft f s
  | .discardDraft f => Sys2Proof.Machine.execDiscardDraft f s
  | .commit f => Sys2Proof.Machine.execCommit f s
  | .retire f => Sys2Proof.Machine.execRetire f s
  | .readTableMap f => Sys2Proof.Machine.execReadTableMap f s
  | .readProfile f => Sys2Proof.Machine.execReadProfile f s
  | .clearWithheld f => Sys2Proof.Machine.execClearWithheld f s
  | .setPhase f => Sys2Proof.Machine.execSetPhase f s
  | .insertPhase f => Sys2Proof.Machine.execInsertPhase f s
  | .deletePhase f => Sys2Proof.Machine.execDeletePhase f s
  | .setFields f => Sys2Proof.Machine.execSetFields f s
  | .readPhase f => Sys2Proof.Machine.execReadPhase f s
  | .readPool f => Sys2Proof.Machine.execReadPool f s
  | .checkDraft f => Sys2Proof.Machine.execCheckDraft f s
  | .bind f => Sys2Proof.Machine.execBind f s
  | .unbind f => Sys2Proof.Machine.execUnbind f s
  | .setChannel f => Sys2Proof.Machine.execSetChannel f s
  | .readChannel f => Sys2Proof.Machine.execReadChannel f s
  | .actuate f => Sys2Proof.Machine.execActuate f s
  | .release f => Sys2Proof.Machine.execRelease f s
  | .readOutcome f => Sys2Proof.Machine.execReadOutcome f s
  | .readFaults f => Sys2Proof.Machine.execReadFaults f s
  | .clearFaults f => Sys2Proof.Machine.execClearFaults f s
  | .setFaultMask f => Sys2Proof.Machine.execSetFaultMask f s
  | .arm f => Sys2Proof.Machine.execArm f s
  | .disarm f => Sys2Proof.Machine.execDisarm f s
  | .safeStop f => Sys2Proof.Machine.execSafeStop f s
  | .leaveSafe f => Sys2Proof.Machine.execLeaveSafe f s
  | .softReset f => Sys2Proof.Machine.execSoftReset f s
  | .storeOpen f => Sys2Proof.Machine.execStoreOpen f s
  | .storeClose f => Sys2Proof.Machine.execStoreClose f s
  | .storeWriteProfile f => Sys2Proof.Machine.execStoreWriteProfile f s
  | .storeWriteMap f => Sys2Proof.Machine.execStoreWriteMap f s
  | .storeLock f => Sys2Proof.Machine.execStoreLock f s
  | .storeQuery f => Sys2Proof.Machine.execStoreQuery f s
  | .nop f => Sys2Proof.Machine.execNop f s
  | .unknownCommand code f => Sys2Proof.Machine.execUnknownCommand code f s
  | .frameBegin => Sys2Proof.Machine.execFrameBegin s
  | .frameRejected bits => Sys2Proof.Machine.execFrameRejected bits s
  | .ctlAsserted ch => Sys2Proof.Machine.execCtlAsserted ch s
  | .ctlDeasserted ch => Sys2Proof.Machine.execCtlDeasserted ch s
  | .nsafeAsserted => Sys2Proof.Machine.execNsafeAsserted s
  | .nsafeDeasserted => Sys2Proof.Machine.execNsafeDeasserted s
  | .fullReset cause => Sys2Proof.Machine.execFullReset cause s
  | .fullResetEnd vdd nResetHigh => Sys2Proof.Machine.execFullResetEnd vdd nResetHigh s
  | .loadProfileSlot => Sys2Proof.Machine.execLoadProfileSlot s
  | .loadMapSlot => Sys2Proof.Machine.execLoadMapSlot s
  | .loadLockSlot => Sys2Proof.Machine.execLoadLockSlot s
  | .uvmOnset vs => Sys2Proof.Machine.execUvmOnset vs s
  | .uvmClears vs => Sys2Proof.Machine.execUvmClears vs s
  | .ovtOnset temp => Sys2Proof.Machine.execOvtOnset temp s
  | .ovtClears temp => Sys2Proof.Machine.execOvtClears temp s
  | .progOkTrue vs => Sys2Proof.Machine.execProgOkTrue vs s
  | .progOkFalse vs => Sys2Proof.Machine.execProgOkFalse vs s
  | .storeWriteComplete => Sys2Proof.Machine.execStoreWriteComplete s
  | .regulationPeriod p => Sys2Proof.Machine.execRegulationPeriod p s
  | .phaseEnd ch => Sys2Proof.Machine.execPhaseEnd ch s
  | .holdExpired ch => Sys2Proof.Machine.execHoldExpired ch s
  | .minOnReached ch => Sys2Proof.Machine.execMinOnReached ch s
  | .dipConfirmed ch => Sys2Proof.Machine.execDipConfirmed ch s
  | .resistanceSample ch => Sys2Proof.Machine.execResistanceSample ch s
  | .openLoadLatchSet ch => Sys2Proof.Machine.execOpenLoadLatchSet ch s
  | .overcurrentTrip ch => Sys2Proof.Machine.execOvercurrentTrip ch s
  | .stretchExpired => Sys2Proof.Machine.execStretchExpired s

end Sys2Proof.Machine
end

