-- ==== Sys2Proof/Safety.lean ====
section
/-! DEFINITION. What the manual promises of every state of the part, as predicates that each step keeps, and the words in
which the statements speak of a link command. -/

namespace Sys2Proof.Machine

/-! ### The pool -/

/-- The free entries and those held by live, draft and draining versions are 160 together (R30). -/
def PoolAccounted (s : State) : Prop :=
  s.free + s.heldLive + s.heldDrafts + s.heldDraining = Config.poolSize

/-! ### Drive and modes -/

/-- Whether a part mode lets an actuation go on: in ARMED any, in STANDBY one that is in its release sequence or holds a
release, and in the other modes none (R97). -/
def driveAllowed (m : PartMode) (a : Actuation) : Prop :=
  m = .armed ∨ (m = .standby ∧ (a.seq = .energize → a.heldFrom.isSome = true))

/-- Every running actuation is one that the part mode lets go on (R97). -/
def ModeGovernsDrive (s : State) : Prop :=
  ∀ ch a, (s.channel ch).running = some a → driveAllowed s.modes.mode a

/-- Outside LOADING the part is in SAFE while nSAFE was last seen asserted, and in LOADING that is remembered (R155). -/
def NsafeHolds (s : State) : Prop :=
  s.modes.nsafeSeen = .asserted →
    (s.modes.mode = .loading → s.modes.nsafeRemembered = true) ∧ (s.modes.mode ≠ .loading → s.modes.mode = .safe)

/-- The part is ARMED only with neither condition present and SUSPENDED only with one, and a present condition has its flag
set (R144, R158, R160, R161, R162). -/
def ConditionsGovern (s : State) : Prop :=
  (s.modes.mode = .armed → s.monitor.uvm = false ∧ s.monitor.ovt = false) ∧
    (s.modes.mode = .suspended → s.monitor.uvm = true ∨ s.monitor.ovt = true) ∧
    (s.monitor.uvm = true → s.faults.uvm = true) ∧ (s.monitor.ovt = true → s.faults.ovt = true)

/-! ### The profile table -/

/-- The number of channels bound to a profile. -/
def State.boundTo (s : State) (p : ProfileId) : Nat :=
  (allChannels.filter fun ch => decide ((s.channel ch).binding = some p)).length

/-- Each profile's binding count is the number of the channels bound to it, a bound profile has a live version, and in
LOADING so has every id that loaded (R6). -/
def BindingsCounted (s : State) : Prop :=
  (∀ p, (s.profile p).bindingCount = s.boundTo p) ∧
    (∀ ch p, (s.channel ch).binding = some p → (s.profile p).live.isSome = true) ∧
    (s.modes.mode = .loading → ∀ p : ProfileId, s.loader.loaded.get p = true → (s.profile p).live.isSome = true)

/-- Whether an actuation runs on a version of a profile. -/
def Actuation.runsOn (a : Actuation) (p : ProfileId) (gen : Nat) : Bool := decide (a.profile = p) && decide (a.gen = gen)

/-- The number of channels engaged to a version of a profile. -/
def State.engagedTo (s : State) (p : ProfileId) (gen : Nat) : Nat :=
  (allChannels.filter fun ch => (s.channel ch).running.any fun a => a.runsOn p gen).length

/-- Each version's engagement count is the number of the channels engaged to it; a draining version has at least one and lies
below the live one, whose generation is at most the high-water mark; and every running actuation is on a version that its
channel's bound profile holds (R4, R7, R8, R17). -/
def EngagementsCounted (s : State) : Prop :=
  (∀ p v, (s.profile p).live = some v → v.engaged = s.engagedTo p v.gen ∧ v.gen ≤ (s.profile p).highWater) ∧
    (∀ p v, (s.profile p).draining = some v →
      v.engaged = s.engagedTo p v.gen ∧ 0 < v.engaged ∧ ∃ w, (s.profile p).live = some w ∧ v.gen < w.gen) ∧
    (∀ ch a, (s.channel ch).running = some a →
      (s.channel ch).binding = some a.profile ∧
        ((∃ v, (s.profile a.profile).live = some v ∧ v.gen = a.gen) ∨
          ∃ v, (s.profile a.profile).draining = some v ∧ v.gen = a.gen))

/-- The table's two accounts together: the second is kept only beside the first. -/
def TableAccounted (s : State) : Prop := BindingsCounted s ∧ EngagementsCounted s

/-- A profile is withheld exactly when its failure threshold is nonzero and its run, at most 15, has reached it; without a
live version its run is 0 (R124). -/
def WithheldExact (s : State) : Prop :=
  ∀ p, (s.profile p).failureRun ≤ Config.maxFailureRun ∧
    ((s.profile p).withheld = true ↔ (s.profile p).threshold ≠ 0 ∧ (s.profile p).threshold ≤ (s.profile p).failureRun) ∧
    ((s.profile p).live = none → (s.profile p).failureRun = 0)

/-! ### Shapes -/

/-- Whether a version's fields are in the ranges that the part keeps (R28). -/
def Fields.kept (v : Fields) : Bool :=
  within 0 v.minOn 20000 && within 1 v.holdCap 6000 && within 0 v.hitTolerance 50 && v.dipThreshold.all (within 1 · 100) &&
    within 2 v.dipPersistence 30 && v.travelWindow.all (fun w => within 1 w.lo 60000 && within 1 w.hi 60000) &&
    v.resistanceWindow.all (fun w => within 1 w.lo 65535 && within 1 w.hi 65535) && within 0 v.failureThreshold 15

/-- A shape within the counts of R29, its entries in the ranges of R27 and its fields in those of R28. -/
def Shape.inRange (sh : Shape) : Prop :=
  sh.energize.length ≤ Config.maxEnergize ∧ sh.release.length ≤ Config.maxRelease ∧
    (∀ e ∈ sh.energize ++ sh.release, e.kept = true) ∧ sh.fields.kept = true

/-- What every version made live is: in range, with at least one energize entry, and a generation from 1 to 65535 (R4, R29). -/
def liveInRange (gen : Nat) (sh : Shape) : Prop :=
  sh.inRange ∧ sh.energize ≠ [] ∧ 1 ≤ gen ∧ gen ≤ Config.maxGeneration

/-- A profile content is what a live version was as its write was accepted (R21). -/
def CopyContent.inRange : CopyContent → Prop
  | .profile _ gen sh => liveInRange gen sh
  | .map _ _ => True
  | .lockMark => True

/-- Every version is within its ranges, whichever of its three places it stands in, and so is every stored or snapshotted
version; every high-water mark is at most 65535 (R4, R27, R28, R29). -/
def ShapesInRange (s : State) : Prop :=
  (∀ p, (∀ v, (s.profile p).live = some v → liveInRange v.gen v.shape) ∧
      (∀ v, (s.profile p).draining = some v → liveInRange v.gen v.shape) ∧
      (∀ d, (s.profile p).draft = some d → d.inRange) ∧ (s.profile p).highWater ≤ Config.maxGeneration) ∧
    (∀ slot : Slot, ∀ content check, Cell.written content check ∈ s.store.cells slot → content.inRange) ∧
    (∀ w, s.store.inFlight = some w → w.snapshot.inRange)

/-! ### Channels -/

/-- A latched channel is not driving, the stage of a channel that is not driving is OFF with no duty, an edge-armed channel is
READY, and an unbind-pending one is driving (R62, R63, R68, R73, R84). -/
def ChannelsConsistent (s : State) : Prop :=
  ∀ ch, ((s.chFault ch).latched = true → (s.channel ch).running = none) ∧
    ((s.channel ch).running = none → (s.stage ch).mode = .off ∧ (s.stage ch).duty = 0) ∧
    ((s.channel ch).edgeArmed = true → s.ready ch = true) ∧
    ((s.channel ch).unbindPending = true → (s.channel ch).running.isSome = true)

/-- A channel that drives or has its check off has no pull check running and no window, a latched one has no window, and a
window is at most 6 (R135, R138, R139). -/
def PullGoverned (s : State) : Prop :=
  ∀ ch, ((s.channel ch).running.isSome = true ∨ (s.channel ch).openLoadCheck = false →
      (s.chFault ch).pull = .notRunning ∧ (s.chFault ch).window = 0) ∧
    ((s.chFault ch).latched = true → (s.channel ch).running = none ∧ (s.chFault ch).window = 0) ∧
    (s.chFault ch).window ≤ Config.openLoadPeriods

/-! ### The store -/

/-- A write in flight has a session that is OPEN or CLOSING, CLOSING has a write in flight, a locked store is CLOSED, an open
session is one in STANDBY, and none is open or closing in LOADING (R168, R171, R174, R175). -/
def StoreGoverned (s : State) : Prop :=
  (s.store.inFlight.isSome = true → s.store.session ≠ .closed) ∧
    (s.store.session = .closing → s.store.inFlight.isSome = true) ∧
    (s.store.locked = true → s.store.session = .closed) ∧
    (s.store.session = .isOpen → s.modes.mode = .standby) ∧
    (s.modes.mode = .loading → s.store.session = .closed)

/-- The copy-state record says blank of exactly the copies that are blank in the array, for every slot that the loader has
worked through, which after LOADING is all of them; each slot has its copies; and a copy being written is partly written
(R166, R168, R175, R179). -/
def CopiesTracked (s : State) : Prop :=
  (∀ slot : Slot, (s.store.cells slot).length = copiesOf slot ∧ (s.store.states slot).length = copiesOf slot) ∧
    (s.modes.mode ≠ .loading → s.loader.next = 34) ∧
    (∀ slot : Slot, slot.val < s.loader.next →
      ∀ i : Nat, (s.store.states slot)[i]? = some .blank ↔ (s.store.cells slot)[i]? = some .blank) ∧
    (∀ w, s.store.inFlight = some w →
      1 ≤ w.copy ∧ (s.store.cells w.slot)[w.copy - 1]? = some .partlyWritten)

/-! ### Actuations -/

/-- The part right after an accepted start: the live version engaged, the cursor on energize position 0 with both times 0, the
edge-armed flag clear, the diagnostic unit reset and the pull removed (R7, R78, R106, R138, R139). -/
def State.started (s : State) (ch : ChannelId) (o : Origin) (p : ProfileId) (v : Version) : State :=
  (((s.setProfile p { s.profile p with live := some { v with engaged := v.engaged + 1 } }).setChannel ch
    { s.channel ch with
      edgeArmed := false
      running := some
        { profile := p, gen := v.gen, origin := o, seq := .energize, pos := 0, time := 0, phaseTime := 0, heldFrom := none,
          noted := none, earlyHeld := false, entryCurrent := (s.stage ch).sensed } }).setDiag ch
    { Diag.reset with search := if v.shape.fields.dipThreshold.isSome then .waiting else .off }).setChFault ch
    { s.chFault ch with pull := .notRunning, window := 0 }

/-- The cursor has left the energize sequence with an end cause, its motion search closed: it stands on release position 0 with
the cause noted and no release held, or the actuation ends with the cause where there is no release entry (R90, R91, R94, R111).
The diagnostic unit `u` is the one that has taken what the channel's last period made due, with its search closed. -/
def State.LeavesEnergize (s t : State) (ch : ChannelId) (a : Actuation) (cause : EndCause) : Prop :=
  ∃ u : Diag, u = ((s.settleUnit ch).diag ch).close (s.shapeOf a).fields ∧ (u.search = .off ∨ u.search = .closed) ∧
    t = if (s.shapeOf a).release = [] then (s.setDiag ch u).endActuation ch cause
      else (s.setDiag ch u).setChannel ch
        { s.channel ch with
          running := some
            { a with
              seq := .release, pos := 0, phaseTime := 0, heldFrom := none, noted := some cause
              entryCurrent := (s.stage ch).sensed } }

/-- A release request taken by an ENERGIZING or HOLDING channel before min_on is held: its source and the early-release-held note
are set, and nothing else (R95). -/
def State.holding (s : State) (ch : ChannelId) (a : Actuation) (source : ReleaseSource) : State :=
  s.setChannel ch { s.channel ch with running := some { a with heldFrom := some source, earlyHeld := true } }

/-- What DISARM does at one channel: one that is not ENERGIZING or HOLDING, or that holds a release, is passed by; otherwise a
release with source DISARM is held before min_on, and takes effect from min_on on (R97). -/
def State.DisarmsChannel (s t : State) (ch : ChannelId) : Prop :=
  ((s.channel ch).energized = false → t = s) ∧
    ∀ a, (s.channel ch).running = some a → a.seq = .energize →
      (a.heldFrom.isSome = true → t = s) ∧
      (a.heldFrom = none →
        (a.time < 2 * (s.shapeOf a).fields.minOn → t = s.holding ch a .disarm) ∧
        (2 * (s.shapeOf a).fields.minOn ≤ a.time → s.LeavesEnergize t ch a .disarmed))

/-- Every channel that drove has been stopped abruptly with a cause whose verdict is ABORTED, and the others are as they were: each
stopped channel has its record and its settling, its stage OFF, and what its unit had due; of the table the engagements of the
stopped channels and their unbind-pending bindings go, and with a version that drained its entries; drafts, high-water marks, failure
runs and withheld flags stay (R64, R73, R99, R101, R102, R119, R127). What rests on the table's counts is said of a table that is
accounted for. -/
def State.AllStopped (s t : State) (cause : EndCause) : Prop :=
  (∀ ch, ((s.channel ch).running = none →
      t.channel ch = s.channel ch ∧ t.stage ch = s.stage ch ∧ t.diag ch = s.diag ch) ∧
    ∀ a, (s.channel ch).running = some a → ∃ r : OutcomeRecord,
      r.cause = cause ∧ r.verdict = .aborted ∧ r.profile = a.profile ∧ r.gen = a.gen ∧ r.origin = a.origin ∧
      r.duration = min 65535 (a.time / 2) ∧ r.previousUnread = (s.channel ch).unread ∧
      r.number = (match (s.channel ch).outcome with | none => 0 | some o => (o.number + 1) % 256) ∧
      t.channel ch =
        { s.channel ch with
          running := none, outcome := some r, unread := true, unbindPending := false
          binding := if (s.channel ch).unbindPending then none else (s.channel ch).binding
          edgeArmed := !(s.chFault ch).latched && (!(s.channel ch).unbindPending && (s.channel ch).binding.isSome) &&
            decide ((s.channel ch).ctlSeen = .deasserted) } ∧
      t.stage ch = { s.stage ch with mode := .off, duty := 0 } ∧
      (TableAccounted s → t.diag ch = (s.settleUnit ch).diag ch)) ∧
  (∀ p, (t.profile p).draft = (s.profile p).draft ∧ (t.profile p).highWater = (s.profile p).highWater ∧
    (t.profile p).failureRun = (s.profile p).failureRun ∧ (t.profile p).withheld = (s.profile p).withheld ∧
    (t.profile p).live = (s.profile p).live.map (fun v => { v with engaged := v.engaged - s.engagedTo p v.gen }) ∧
    (t.profile p).bindingCount = (s.profile p).bindingCount -
      (allChannels.filter fun ch => (s.channel ch).running.isSome && (s.channel ch).unbindPending &&
        decide ((s.channel ch).binding = some p)).length) ∧
  (TableAccounted s → (∀ p, (t.profile p).draining = none) ∧ t.free = s.free + s.heldDraining)

/-! ### Rows one after another -/

/-- The commands of a list, executed one after another, lead from one state to another. -/
def State.Runs (s t : State) : List Instr → Prop
  | [] => t = s
  | i :: rest => ∃ u : State, exec i s = .next u ∧ u.Runs t rest

/-- The rows that take what the last period of a channel may have made due to its unit and its actuation, in the order of their
happening: the unit's before the channel leaves the phase, and a held release before the hold cap and the phase's end (R90, R91, R95,
R107; notes/assumptions/4.md). -/
def dueRows (ch : ChannelId) : List Instr :=
  [.dipConfirmed ch, .resistanceSample ch, .minOnReached ch, .holdExpired ch, .phaseEnd ch]

/-! ### Acceptance checks -/

/-- The entry at a position breaks a check, and no entry before it in scan order does: the energize entries stand before the
release entries, each sequence from its head (R47). `breaks` says of an entry with its sequence and index that it breaks the
check. -/
def Shape.FirstBreak (sh : Shape) (breaks : Seq → Nat → PhaseEntry → Prop) (q : Seq) (i : Nat) : Prop :=
  (∃ e, (sh.seqOf q)[i]? = some e ∧ breaks q i e) ∧
    (∀ j e, j < i → (sh.seqOf q)[j]? = some e → ¬ breaks q j e) ∧
    (q = .release → ∀ j e, sh.energize[j]? = some e → ¬ breaks .energize j e)

/-- A judged check fails exactly where an entry breaks it, and reports the first that does (R47). -/
def Shape.ReportsFirst (sh : Shape) (judged : Judgment) (breaks : Seq → Nat → PhaseEntry → Prop) : Prop :=
  judged ≠ some none ∧ ∀ q i, judged = some (some (q, i)) ↔ sh.FirstBreak breaks q i

/-! ### Link commands -/

/-- A byte of a request by its number, from 1 to 10 (12.1). -/
def frameByte (f : Frame) (n : Nat) : Byte := [0, f.b1, f.b2, f.b3, f.b4, f.b5, f.b6, f.b7, f.b8, f.b9, f.b10].getD n 0

/-- A field of a request: the number of its byte, and its highest and its lowest bit there. -/
structure RequestField where
  byte : Nat
  high : Nat
  low : Nat
  deriving DecidableEq, Repr

/-- A field that is a whole byte. -/
def wholeByte (n : Nat) : RequestField := { byte := n, high := 7, low := 0 }

/-- A phase position byte of a request: bit 6 the sequence, bits 2..0 the index (12.4). -/
def positionFields (n : Nat) : List RequestField := [⟨n, 6, 6⟩, ⟨n, 2, 0⟩]

/-- The fields of a phase entry at b4 to b10: the marks and the kind, the level in bits 9..0, the duration, and the start level in
bits 15 and 9..0 (12.4). -/
def entryFields : List RequestField :=
  [⟨4, 7, 7⟩, ⟨4, 6, 6⟩, ⟨4, 2, 0⟩, ⟨5, 1, 0⟩, wholeByte 6, wholeByte 7, wholeByte 8, ⟨9, 7, 7⟩, ⟨9, 1, 0⟩, wholeByte 10]

/-- The fields of a field block from b4, by its group: 3 TIMING, 4 MOTION, 5 RESISTANCE (12.4). Any other group has none: the
model's choice (notes/assumptions/19.md). -/
def blockFields (group : Nat) : List RequestField :=
  if group = 3 then [wholeByte 4, wholeByte 5, wholeByte 6, wholeByte 7, wholeByte 8, ⟨9, 3, 0⟩]
  else if group = 4 then [⟨4, 7, 7⟩, ⟨4, 6, 0⟩, ⟨5, 7, 7⟩, ⟨5, 4, 0⟩, wholeByte 6, wholeByte 7, wholeByte 8, wholeByte 9]
  else if group = 5 then [⟨4, 7, 7⟩, wholeByte 5, wholeByte 6, wholeByte 7, wholeByte 8]
  else []

/-- The fields that the layout of each command's request names, as the tables of 12.5, 12.6 and 12.8 list them. -/
def requestFields (f : Frame) : Command → List RequestField
  | .openDraft => [wholeByte 2]
  | .discardDraft => [wholeByte 2]
  | .commit => [wholeByte 2]
  | .retire => [wholeByte 2]
  | .readTableMap => [wholeByte 2]
  | .readProfile => [wholeByte 2, wholeByte 3, wholeByte 4]
  | .clearWithheld => [wholeByte 2]
  | .setPhase => wholeByte 2 :: positionFields 3 ++ entryFields
  | .insertPhase => wholeByte 2 :: positionFields 3 ++ entryFields
  | .deletePhase => wholeByte 2 :: positionFields 3
  | .setFields => wholeByte 2 :: wholeByte 3 :: blockFields f.b3.toNat
  | .readPhase => wholeByte 2 :: wholeByte 3 :: positionFields 4
  | .readPool => []
  | .checkDraft => [wholeByte 2]
  | .bind => [wholeByte 2, wholeByte 3]
  | .unbind => [wholeByte 2]
  | .setChannel => [wholeByte 2, ⟨3, 1, 0⟩, ⟨3, 7, 7⟩]
  | .readChannel => [wholeByte 2, wholeByte 3]
  | .actuate => [wholeByte 2]
  | .release => [wholeByte 2]
  | .readOutcome => [wholeByte 2, wholeByte 3]
  | .readFaults => [wholeByte 2]
  | .clearFaults => [wholeByte 2]
  | .setFaultMask => [⟨2, 0, 0⟩, ⟨2, 1, 1⟩, ⟨2, 2, 2⟩, ⟨2, 3, 3⟩, ⟨2, 4, 4⟩, ⟨2, 5, 5⟩, ⟨3, 1, 0⟩]
  | .arm => []
  | .disarm => []
  | .safeStop => []
  | .leaveSafe => []
  | .softReset => []
  | .storeOpen => []
  | .storeClose => []
  | .storeWriteProfile => [wholeByte 2]
  | .storeWriteMap => [⟨2, 0, 0⟩]
  | .storeLock => []
  | .storeQuery => [wholeByte 2]
  | .nop => []

/-- The state as the port leaves it when it has taken a command's frame and prepared its reply, and nothing more (R184,
R189). -/
def State.replied (s : State) (c : Command) (f : Frame) (r : ResultCode) (d : ReplyData) : State :=
  { s with
    link :=
      { s.link with
        received := bytesBits (frameBytes (commandCode c) f)
        frameOpen := false
        shifted := Config.frameBits
        prepared := { result := r, code := commandCode c, tag := some (frameTag f), data := d } } }

/-- The port hands a command to its owner: a frame is open, the part is neither in full reset nor in LOADING, no reserved bit
is set, and the part mode accepts the command (R184, R188). -/
def State.admits (s : State) (c : Command) (f : Frame) : Prop :=
  s.inFullReset = false ∧ s.link.frameOpen = true ∧ s.modes.mode ≠ .loading ∧ reservedClear c f = true ∧
    s.modes.mode.accepts c = true

end Sys2Proof.Machine
end

