-- ==== Sys2Proof/WellFormed.lean ====
section
/-! DEFINITION. Which commands are the happening their row names. A link command is one whatever its frame holds: the
port and the owner judge the frame. A happening is one where the row's own condition on what the part sees holds; one
that is not changes nothing when it is executed (notes/assumptions/5.md). -/

namespace Sys2Proof

/-- Whether a command is the happening its row of the table names. -/
def Instr.wellFormed : Instr → Bool
  -- R188: a code that is none of the 36
  | .unknownCommand code _ => (Machine.commandOfCode code).isNone
  -- R185, R186: rejected for its length or its check
  | .frameRejected bits => !Machine.frameAccepted bits
  -- R143
  | .fullReset (.vdd vdd) => vdd < Config.vddAdequateFrom
  | .fullResetEnd vdd nResetHigh => Config.vddAdequateFrom ≤ vdd && nResetHigh
  -- R141
  | .uvmOnset vs => vs < Config.uvmOnsetBelow
  | .uvmClears vs => Config.uvmClearsAbove < vs
  | .ovtOnset temp => Config.ovtOnsetFrom ≤ temp
  | .ovtClears temp => temp < Config.ovtClearsBelow
  | .progOkTrue vs => Config.progOkFrom ≤ vs
  | .progOkFalse vs => vs < Config.progOkLostBelow
  | .fullReset .powerOn => true
  | .fullReset .nReset => true
  | .openDraft _ => true
  | .discardDraft _ => true
  | .commit _ => true
  | .retire _ => true
  | .readTableMap _ => true
  | .readProfile _ => true
  | .clearWithheld _ => true
  | .setPhase _ => true
  | .insertPhase _ => true
  | .deletePhase _ => true
  | .setFields _ => true
  | .readPhase _ => true
  | .readPool _ => true
  | .checkDraft _ => true
  | .bind _ => true
  | .unbind _ => true
  | .setChannel _ => true
  | .readChannel _ => true
  | .actuate _ => true
  | .release _ => true
  | .readOutcome _ => true
  | .readFaults _ => true
  | .clearFaults _ => true
  | .setFaultMask _ => true
  | .arm _ => true
  | .disarm _ => true
  | .safeStop _ => true
  | .leaveSafe _ => true
  | .softReset _ => true
  | .storeOpen _ => true
  | .storeClose _ => true
  | .storeWriteProfile _ => true
  | .storeWriteMap _ => true
  | .storeLock _ => true
  | .storeQuery _ => true
  | .nop _ => true
  | .frameBegin => true
  | .ctlAsserted _ => true
  | .ctlDeasserted _ => true
  | .nsafeAsserted => true
  | .nsafeDeasserted => true
  | .loadProfileSlot => true
  | .loadMapSlot => true
  | .loadLockSlot => true
  | .storeWriteComplete => true
  | .regulationPeriod _ => true
  | .phaseEnd _ => true
  | .holdExpired _ => true
  | .minOnReached _ => true
  | .dipConfirmed _ => true
  | .resistanceSample _ => true
  | .openLoadLatchSet _ => true
  | .overcurrentTrip _ => true
  | .stretchExpired => true

end Sys2Proof
end

