-- ==== Sys2Proof/Certificates/Slice0/Obligations.lean ====
section
/-! DEFINITION. The statements about the part, for the provers: its link port, its profile table and pool, its layouts and checks,
its channels, actuations and diagnostics, its faults, modes and store, and what every step keeps. -/

section Statements

open Sys2Proof Sys2Proof.Machine

/-! ### The queue, full reset and the link port -/

/-- A step takes the command at the front of the queue and executes it on the part with the queue's rest; on an empty queue the part
idles. The queue is the model's choice (notes/assumptions/2.md). -/
def Obligations.StepRunsFrontCommand : Prop :=
  (∀ (c : Instr) (rest : List Instr) (s : State), step { s with pending := c :: rest } = exec c { s with pending := rest }) ∧
    ∀ s : State, s.pending = [] → step s = .next s

/-- FULL_RESET: every block at its full-reset value, the nonvolatile array and the waiting commands kept (R23, R43, R80, R84, R106,
R123, R134, R135, R141, R154, R166, R168, R183). The values and items that the manual does not give are the model's choices: the
sensed current (notes/assumptions/10.md), the measurements (9.md), the nSAFE level (8.md), the CTL levels not yet sampled (7.md), the
overcurrent condition and the trip's own period (21.md), the unit's supply voltage (24.md), the copy-state record, the locked state
and the loader (12.md), the transmit buffer (11.md), and the mode LOADING while the part is still held (15.md). -/
def Obligations.FullResetRestoresEveryBlock : Prop :=
  ∀ (cause : ResetCause) (s : State), (∀ vdd, cause = .vdd vdd → vdd < 250) →
    exec (.fullReset cause) s = .next
      { pending := s.pending
        inFullReset := true
        profiles := Vector.replicate 32
          { live := none, draft := none, draining := none, highWater := 0, bindingCount := 0, failureRun := 0, withheld := false }
        free := 160
        channels := Vector.replicate 8
          { binding := none, unbindPending := false, trigger := .pin, openLoadCheck := false, running := none,
            edgeArmed := false, ctlSeen := .unsampled, outcome := none, unread := false }
        stages := Vector.replicate 8 { mode := .off, target := 0, duty := 0, sensed := 0 }
        diags := Vector.replicate 8
          { search := .off, peak := none, dipCount := 0, candStart := none, candLow := none, dipTime := none, dipPeak := none,
            valley := none, motionFinding := .none, hit := .notJudged, sample := none, resistance := .notJudged, supply := 0 }
        faults :=
          { channels := Vector.replicate 8
              { overcurrent := false, openLoad := false, pull := .notRunning, window := 0, overcurrentPresent := false
                tripPeriod := false }
            ovt := false, uvm := false, comm := false
            masks := { overcurrent := false, openLoad := false, ovt := false, uvm := false, comm := false, withheld := false }
            stretch := .zero, timer := none }
        monitor := { vs := 0, temp := 0, uvm := false, ovt := false, progOk := false }
        modes := { mode := .loading, nsafeSeen := .deasserted, nsafeRemembered := false }
        store :=
          { array := s.store.array, record := blankRecord, locked := false, session := .closed, inFlight := none,
            lastResult := .none }
        loader := { next := 0, loaded := Vector.replicate 32 false, request := .stay }
        link :=
          { received := [], frameOpen := false
            prepared := { result := .noPrior, code := 0, tag := none, data := {} }
            transmit := Vector.replicate 12 0, shifted := 0 } }

/-- FULL_RESET_END ends the full reset where VDD is adequate and nRESET high, and changes nothing else; with VDD below 2.5 V or nRESET
low the full reset goes on, and until its end the part takes no other happening (R143, R192; the last clause over the happenings that
are no frame: the model's choice, notes/assumptions/15.md). -/
def Obligations.FullResetHoldsUntilItsEnd : Prop :=
  (∀ (vdd : Nat) (s : State), 250 ≤ vdd → exec (.fullResetEnd vdd true) s = .next { s with inFullReset := false }) ∧
    (∀ (vdd : Nat) (high : Bool) (s : State), vdd < 250 ∨ high = false → exec (.fullResetEnd vdd high) s = .next s) ∧
    ∀ (i : Instr) (s : State), s.inFullReset = true → (∀ c, i ≠ .fullReset c) → (∀ v h, i ≠ .fullResetEnd v h) →
      exec i s = .next s

/-- FRAME_BEGIN: the receive buffer is emptied, the frame opened and the transmit buffer loaded with the status byte, the prepared
reply and a check byte over the two (R184, R190, R196); while a frame is open there is no second beginning. From there each bit the
host clocks enters the receive buffer and moves SDO to the next bit of the transmit buffer, most significant bit of each byte first,
and to 0 after the 96th; with no frame open the edges of SCK are ignored and SDO is released, as it is during full reset (R184, R192;
after a full reset that ends with nCS low: the model's choice, notes/assumptions/40.md). The check byte is the CRC-8 of R186, and the
result codes have the values of 12.9. -/
def Obligations.FrameBeginLoadsReply : Prop :=
  (∀ s : State, s.inFullReset = false →
    (s.link.frameOpen = true → exec .frameBegin s = .next s) ∧
    (s.link.frameOpen = false → ∃ tx : Vector Byte 12,
      exec .frameBegin s = .next
        { s with link := { s.link with received := [], frameOpen := true, shifted := 0, transmit := tx } } ∧
      tx[0] = s.statusByte ∧
      tx[1] = s.link.prepared.data.flags ++ BitVec.ofNat 5 (resultValue s.link.prepared.result) ∧
      tx[2] = s.link.prepared.code ∧
      tx[3] = s.link.prepared.data.nibble ++ s.link.prepared.tag.getD 0 ∧
      tx[4] = s.link.prepared.data.b4 ∧ tx[5] = s.link.prepared.data.b5 ∧ tx[6] = s.link.prepared.data.b6 ∧
      tx[7] = s.link.prepared.data.b7 ∧ tx[8] = s.link.prepared.data.b8 ∧ tx[9] = s.link.prepared.data.b9 ∧
      tx[10] = s.link.prepared.data.b10 ∧ tx[11] = crc8 (tx.toList.take 11) ∧
      ∀ (bits : List Bool) (l : LinkPort),
        l = bits.foldl (fun l bit => (l.sckRises bit).sckFalls)
          { s.link with received := [], frameOpen := true, shifted := 0, transmit := tx } →
        l.received = bits ∧ l.frameOpen = true ∧ l.transmit = tx ∧ l.prepared = s.link.prepared ∧
        l.sdo = some
          (decide (bits.length < 96) && (tx.toList.getD (bits.length / 8) 0).getLsbD (7 - bits.length % 8)) ∧
        l.ended bits = { l with frameOpen := false })) ∧
  (∀ (l : LinkPort) (bit : Bool), l.frameOpen = false → l.sckRises bit = l ∧ l.sckFalls = l ∧ l.sdo = none) ∧
  (∀ s : State, s.sdo = if s.inFullReset then none else s.link.sdo) ∧
  crc8 [] = 0xFF ∧
  (∀ (bs : List Byte) (b : Byte),
    crc8 (bs ++ [b]) = Nat.repeat (fun r : Byte => if r.msb then (r <<< 1) ^^^ 0x07 else r <<< 1) 8 (crc8 bs ^^^ b)) ∧
  [ResultCode.ok, .accepted, .frameRejected, .noPrior, .notReady, .modeRefused, .unknownCommand, .badTarget, .badParam, .noProfile,
    .noVersion, .noDraft, .draftExists, .poolFull, .seqFull, .checkFailed, .drainPending, .genLimit, .inUse, .withheld, .busy,
    .wrongSource, .unbound, .slotExhausted, .unbindPending, .faulted, .notActive, .lineActive, .storeClosed, .storeBusy, .locked,
    .lowSupply].map resultValue = List.range 32

/-- The six items of the status byte, the mode coded 0 to 4, and the nFAULT line (R122, R130, R151, R152, R168, R191, 12.3). -/
def Obligations.StatusByteShowsItsSources : Prop :=
  ∀ s : State,
    s.statusByte.toNat / 32 = modeCode s.modes.mode ∧
    [PartMode.loading, .standby, .armed, .suspended, .safe].map modeCode = [0, 1, 2, 3, 4] ∧
    (s.statusByte.getLsbD 4 = true ↔
      (∃ ch, (s.chFault ch).overcurrent = true ∨ (s.chFault ch).openLoad = true) ∨ s.faults.ovt = true ∨ s.faults.uvm = true ∨
        s.faults.comm = true ∨ ∃ p, (s.profile p).withheld = true) ∧
    (s.statusByte.getLsbD 3 = true ↔ s.faults.comm = true) ∧
    (s.statusByte.getLsbD 2 = true ↔ ∃ p, (s.profile p).withheld = true) ∧
    (s.statusByte.getLsbD 1 = true ↔ ∃ ch, (s.channel ch).unread = true) ∧
    (s.statusByte.getLsbD 0 = true ↔ s.store.inFlight.isSome = true) ∧
    (s.inFullReset = false →
      (s.nFaultAsserted = true ↔
        (∃ ch, (s.chFault ch).overcurrent = true ∧ s.faults.masks.overcurrent = false) ∨
          (∃ ch, (s.chFault ch).openLoad = true ∧ s.faults.masks.openLoad = false) ∨
          (s.faults.ovt = true ∧ s.faults.masks.ovt = false) ∨ (s.faults.uvm = true ∧ s.faults.masks.uvm = false) ∨
          (s.faults.comm = true ∧ s.faults.masks.comm = false) ∨
          (∃ p, (s.profile p).withheld = true ∧ s.faults.masks.withheld = false) ∨ s.faults.timer.isSome = true)) ∧
    (s.inFullReset = true → s.nFaultAsserted = false)

/-- A frame of any length but 96 bits is rejected, SHORT or LONG, and one of 96 bits whose check fails with CHECK: the COMM flag is
set and the FRAME_REJECTED reply prepared, with what was received of the code and the tag, and nothing else changes (R185, R187). -/
def Obligations.FrameRejectedForItsLengthOrCheck : Prop :=
  ∀ (bits : List Bool) (s : State), s.inFullReset = false → s.link.frameOpen = true →
    (bits.length ≠ 96 → frameAccepted bits = false) ∧
    (bits.length = 96 → (frameAccepted bits = true ↔ (bitsBytes bits)[11]? = some (crc8 ((bitsBytes bits).take 11)))) ∧
    (frameAccepted bits = false →
      exec (.frameRejected bits) s = .next
        { s with
          faults := { s.faults with comm := true }
          link :=
            { s.link with
              received := bits, frameOpen := false, shifted := min bits.length 96
              prepared :=
                { result := .frameRejected
                  code := if 8 ≤ bits.length then (bitsBytes bits).headD 0 else 0
                  tag := if bits.length = 96 then some (((bitsBytes bits).getD 1 0).setWidth 4) else none
                  data :=
                    { b4 := if bits.length < 96 then 1 else if 96 < bits.length then 2 else 3
                      b5 := BitVec.ofNat 8 (min 255 (bits.length / 8)) } } } })

/-- UNKNOWN_COMMAND: a code that is none of the 36 is answered NOT_READY during LOADING and UNKNOWN_COMMAND in every other mode,
with its code and tag echoed, and nothing else changes (R188). -/
def Obligations.UnknownCommandAnswered : Prop :=
  ∀ (code : Byte) (f : Frame) (s : State), commandOfCode code = none → s.inFullReset = false → s.link.frameOpen = true →
    exec (.unknownCommand code f) s = .next
      { s with
        link :=
          { s.link with
            received := bytesBits (frameBytes code f), frameOpen := false, shifted := 96
            prepared :=
              { result := if s.modes.mode = .loading then .notReady else .unknownCommand
                code := code, tag := some (frameTag f), data := {} } } }

/-- NOP is accepted in every mode but LOADING and changes nothing; its reply is OK with all-zero data, its code and its tag; any
parameter bit set is answered BAD_PARAM (R194). -/
def Obligations.NopChangesNothing : Prop :=
  ∀ (f : Frame) (s : State), s.inFullReset = false → s.link.frameOpen = true → s.modes.mode ≠ .loading →
    (f.b1.toNat < 16 → [f.b2, f.b3, f.b4, f.b5, f.b6, f.b7, f.b8, f.b9, f.b10] = List.replicate 9 0 →
      exec (.nop f) s = .next (s.replied .nop f .ok {})) ∧
    ([f.b2, f.b3, f.b4, f.b5, f.b6, f.b7, f.b8, f.b9, f.b10] ≠ List.replicate 9 0 →
      exec (.nop f) s = .next (s.replied .nop f .badParam {}))

/-- The port's refusals of the 36 commands, in their order: NOT_READY, BAD_PARAM for a reserved bit, MODE_REFUSED where the mode
does not accept the command; each leaves the reply and nothing else (R165, R188, R195). A bit is reserved where no field of the
command's request names it, bits 7..4 of byte 1 among them (R195, 12.4 to 12.8); a SET_FIELDS whose group is none of 3 to 5 has no
field block, so that every bit from b4 on is reserved: the model's choice (notes/assumptions/19.md). Where no frame is open, no frame
ends. The commands have the codes of 12.5, 12.6 and 12.8. -/
def Obligations.PortRefusesInOrder : Prop :=
  (∀ (c : Command) (f : Frame) (s : State),
    (s.inFullReset = true ∨ s.link.frameOpen = false → exec (linkInstr c f) s = .next s) ∧
    (s.inFullReset = false → s.link.frameOpen = true →
      (s.modes.mode = .loading → exec (linkInstr c f) s = .next (s.replied c f .notReady {})) ∧
      (s.modes.mode ≠ .loading → reservedClear c f = false →
        exec (linkInstr c f) s = .next (s.replied c f .badParam {})) ∧
      (s.modes.mode ≠ .loading → reservedClear c f = true →
        (c = .actuate ∧ s.modes.mode ≠ .armed) ∨ (c = .disarm ∧ s.modes.mode = .safe) ∨
            (c = .leaveSafe ∧ s.modes.mode ≠ .safe) ∨ (c = .storeOpen ∧ s.modes.mode ≠ .standby) →
          exec (linkInstr c f) s = .next (s.replied c f .modeRefused {})))) ∧
  (∀ (c : Command) (f : Frame),
    reservedClear c f = true ↔
      f.b1.toNat < 16 ∧
        ∀ n k : Nat, 2 ≤ n → n ≤ 10 → k < 8 → (frameByte f n).getLsbD k = true →
          ∃ x ∈ requestFields f c, x.byte = n ∧ x.low ≤ k ∧ k ≤ x.high) ∧
  [Command.nop, .openDraft, .discardDraft, .commit, .retire, .readTableMap, .readProfile, .clearWithheld, .setPhase, .insertPhase,
    .deletePhase, .setFields, .readPhase, .readPool, .checkDraft, .bind, .unbind, .setChannel, .readChannel, .actuate, .release,
    .readOutcome, .readFaults, .clearFaults, .setFaultMask, .arm, .disarm, .safeStop, .leaveSafe, .softReset, .storeOpen, .storeClose,
    .storeWriteProfile, .storeWriteMap, .storeLock, .storeQuery].map (fun c => (commandCode c).toNat) =
    [1, 16, 17, 18, 19, 20, 21, 22, 32, 33, 34, 35, 36, 37, 38, 48, 49, 50, 51, 52, 53, 54, 64, 65, 66, 80, 81, 82, 83, 84, 96, 97, 98,
      99, 100, 101]

/-- The bits of a link row's frame are read back as that row, every byte of the frame kept (R184 to R188, 12.1). -/
def Obligations.FrameBitsDecodeToTheirCommand : Prop :=
  ∀ (i : Instr) (bits : List Bool), i.wellFormed = true → frameOf i = some bits → decodeFrame bits = i

/-- A frame that passes its check fails it with any one or two bits changed, or with any change within eight bits in a row (R186). -/
def Obligations.CheckByteDetectsChanges : Prop :=
  ∀ bits changed : List Bool, frameAccepted bits = true → changed.length = bits.length → changed ≠ bits →
    ((∃ i j : Nat, ∀ n : Nat, n ≠ i → n ≠ j → changed[n]? = bits[n]?) ∨
      (∃ k : Nat, ∀ n : Nat, n < k ∨ k + 8 ≤ n → changed[n]? = bits[n]?)) →
    frameAccepted changed = false

/-! ### The profile table and the pool -/

/-- An id from 1 to 32 is taken; an id of 0 or of 33 or more is answered BAD_TARGET, whatever else could refuse the command, and
nothing changes (R2). -/
def Obligations.OutOfRangeIdIsBadTarget : Prop :=
  (∀ b : Byte, 1 ≤ b.toNat → b.toNat ≤ 32 → ∃ p : ProfileId, profileId? b = some p ∧ idOf p = b.toNat) ∧
    ∀ (c : Command) (f : Frame) (s : State), s.admits c f →
      (c ∈ [.openDraft, .discardDraft, .commit, .retire, .readProfile, .clearWithheld, .setPhase, .insertPhase, .deletePhase,
            .setFields, .readPhase, .checkDraft, .storeWriteProfile] ∧ (f.b2.toNat = 0 ∨ 33 ≤ f.b2.toNat)) ∨
        (c = .bind ∧ (f.b3.toNat = 0 ∨ 33 ≤ f.b3.toNat)) →
      exec (linkInstr c f) s = .next (s.replied c f .badTarget {})

/-- OPEN_DRAFT: DRAFT_EXISTS; an empty draft with default fields on an ABSENT profile; a copy of the live version on a LIVE one
where the pool has its entries, and POOL_FULL where it has not (R9, R10, R44). -/
def Obligations.OpenDraftOpensOrRefuses : Prop :=
  ∀ (f : Frame) (s : State) (p : ProfileId), s.admits .openDraft f → f.b2.toNat = p.val + 1 →
    ((s.profile p).draft.isSome = true → exec (.openDraft f) s = .next (s.replied .openDraft f .draftExists {})) ∧
    ((s.profile p).draft = none → (s.profile p).live = none →
      exec (.openDraft f) s = .next
        ((s.setProfile p
          { s.profile p with
            draft := some
              { energize := [], release := []
                fields :=
                  { minOn := 0, holdCap := 600, hitTolerance := 5, dipThreshold := none, dipPersistence := 4,
                    travelWindow := none, resistanceWindow := none, failureThreshold := 3 } }
            failureRun := 0, withheld := false }).replied .openDraft f .ok { b4 := 0, b5 := BitVec.ofNat 8 s.free })) ∧
    (∀ v : Version, (s.profile p).draft = none → (s.profile p).live = some v → v.shape.size ≤ s.free →
      exec (.openDraft f) s = .next
        ({ s.setProfile p { s.profile p with draft := some v.shape } with free := s.free - v.shape.size }.replied .openDraft f .ok
          { b4 := BitVec.ofNat 8 v.shape.size, b5 := BitVec.ofNat 8 (s.free - v.shape.size) })) ∧
    (∀ v : Version, (s.profile p).draft = none → (s.profile p).live = some v → s.free < v.shape.size →
      exec (.openDraft f) s = .next (s.replied .openDraft f .poolFull {}))

/-- DISCARD_DRAFT, RETIRE and CLEAR_WITHHELD: their refusals, and the entries freed, the versions removed, and the failure run and
the withheld flag that a profile becoming ABSENT loses (R11, R12, R18, R131). -/
def Obligations.DiscardRetireAndClearWithheld : Prop :=
  ∀ (f : Frame) (s : State) (p : ProfileId), f.b2.toNat = p.val + 1 →
    (s.admits .discardDraft f →
      ((s.profile p).draft = none → exec (.discardDraft f) s = .next (s.replied .discardDraft f .noDraft {})) ∧
      (∀ d : Shape, (s.profile p).draft = some d →
        exec (.discardDraft f) s = .next
          ({ s.setProfile p
              { s.profile p with
                draft := none
                failureRun := if (s.profile p).live = none then 0 else (s.profile p).failureRun
                withheld := if (s.profile p).live = none then false else (s.profile p).withheld } with
              free := s.free + d.size }.replied .discardDraft f .ok
            { b4 := BitVec.ofNat 8 d.size, b5 := BitVec.ofNat 8 (s.free + d.size) }))) ∧
    (s.admits .retire f →
      ((s.profile p).live = none → (s.profile p).draft = none →
        exec (.retire f) s = .next (s.replied .retire f .noProfile {})) ∧
      ((s.profile p).live.isSome = true ∨ (s.profile p).draft.isSome = true →
        ((s.profile p).bindingCount ≠ 0 → exec (.retire f) s = .next (s.replied .retire f .inUse {})) ∧
        ((s.profile p).bindingCount = 0 →
          exec (.retire f) s = .next
            ({ s.setProfile p
                { s.profile p with live := none, draft := none, failureRun := 0, withheld := false } with
                free := s.free + (versionSize (s.profile p).live + draftSize (s.profile p).draft) }.replied .retire f .ok
              { b4 := BitVec.ofNat 8 (versionSize (s.profile p).live + draftSize (s.profile p).draft)
                b5 := BitVec.ofNat 8
                  (s.free + (versionSize (s.profile p).live + draftSize (s.profile p).draft)) })))) ∧
    (s.admits .clearWithheld f →
      ((s.profile p).live = none → exec (.clearWithheld f) s = .next (s.replied .clearWithheld f .noProfile {})) ∧
      ((s.profile p).live.isSome = true →
        exec (.clearWithheld f) s = .next
          ((s.setProfile p { s.profile p with failureRun := 0, withheld := false }).replied .clearWithheld f .ok
            { b4 := BitVec.ofNat 8 (s.profile p).failureRun, b5 := if (s.profile p).withheld then 1 else 0 })))

/-- COMMIT: its refusals in order, and the draft made live with the next generation, the displaced version draining where it is
engaged and its entries freed where it is not (R13, R14, R15, R60). -/
def Obligations.CommitMakesDraftLiveOrRefuses : Prop :=
  ∀ (f : Frame) (s : State) (p : ProfileId), s.admits .commit f → f.b2.toNat = p.val + 1 →
    ((s.profile p).draft = none → exec (.commit f) s = .next (s.replied .commit f .noDraft {})) ∧
    (∀ d : Shape, (s.profile p).draft = some d →
      ((s.profile p).draining.isSome = true → exec (.commit f) s = .next (s.replied .commit f .drainPending {})) ∧
      ((s.profile p).draining = none →
        ((s.profile p).highWater = 65535 → exec (.commit f) s = .next (s.replied .commit f .genLimit {})) ∧
        ((s.profile p).highWater < 65535 →
          (∀ n pos, runChecks d = .fail n pos →
            exec (.commit f) s = .next
              (s.replied .commit f .checkFailed { b4 := BitVec.ofNat 8 n, b5 := positionByte pos })) ∧
          (runChecks d = .pass →
            exec (.commit f) s = .next
              ({ s.setProfile p
                  { s.profile p with
                    live := some { gen := (s.profile p).highWater + 1, shape := d, engaged := 0 }
                    draft := none
                    draining := (s.profile p).live.filter fun v => v.engaged ≠ 0
                    highWater := (s.profile p).highWater + 1
                    failureRun := 0, withheld := false } with
                  free := s.free + versionSize ((s.profile p).live.filter fun v => v.engaged = 0) }.replied .commit f .ok
                { b4 := BitVec.ofNat 8 (((s.profile p).highWater + 1) / 256)
                  b5 := BitVec.ofNat 8 ((s.profile p).highWater + 1) })))))

/-- READ_TABLE_MAP answers the set its selector names, bit k of the 32 for P(k+1), and READ_PROFILE the group it names of the
version it names, laid out as 12.5 has it; neither changes anything (R19, R20, 12.4, 12.5). -/
def Obligations.TableReadsAnswerWhatIsHeld : Prop :=
  (∀ (f : Frame) (s : State), s.admits .readTableMap f →
    (1 ≤ f.b2.toNat → f.b2.toNat ≤ 4 → ∃ b4 b5 b6 b7 : Byte,
      exec (.readTableMap f) s = .next (s.replied .readTableMap f .ok { b4 := b4, b5 := b5, b6 := b6, b7 := b7 }) ∧
      ∀ p : ProfileId, (b4 ++ b5 ++ b6 ++ b7).getLsbD p.val =
        if f.b2.toNat = 1 then (s.profile p).live.isSome
        else if f.b2.toNat = 2 then (s.profile p).draft.isSome
        else if f.b2.toNat = 3 then (s.profile p).draining.isSome
        else (s.profile p).withheld) ∧
    (f.b2.toNat = 0 ∨ 4 < f.b2.toNat → exec (.readTableMap f) s = .next (s.replied .readTableMap f .badParam {}))) ∧
  (∀ (f : Frame) (s : State) (p : ProfileId), s.admits .readProfile f → f.b2.toNat = p.val + 1 →
    (f.b3.toNat = 0 ∨ 3 < f.b3.toNat ∨ f.b4.toNat = 0 ∨ 5 < f.b4.toNat →
      exec (.readProfile f) s = .next (s.replied .readProfile f .badParam {})) ∧
    (∀ sel, versionSelector? f.b3 = some sel →
      (f.b4 = 1 → exec (.readProfile f) s = .next (s.replied .readProfile f .ok (profileEntryData (s.profile p)))) ∧
      (2 ≤ f.b4.toNat → f.b4.toNat ≤ 5 → (s.profile p).select sel = none →
        exec (.readProfile f) s = .next (s.replied .readProfile f .noVersion {})) ∧
      (∀ gen engaged sh, (s.profile p).select sel = some (gen, engaged, sh) →
        (f.b4 = 2 → exec (.readProfile f) s = .next (s.replied .readProfile f .ok (shapeData gen engaged sh))) ∧
        (f.b4 = 3 → exec (.readProfile f) s = .next (s.replied .readProfile f .ok (timingData sh.fields))) ∧
        (f.b4 = 4 → exec (.readProfile f) s = .next (s.replied .readProfile f .ok (motionData sh.fields))) ∧
        (f.b4 = 5 → exec (.readProfile f) s = .next (s.replied .readProfile f .ok (resistanceData sh.fields)))))) ∧
  (∀ b : Byte, versionSelector? b =
    if b.toNat = 1 then some .live else if b.toNat = 2 then some .draft else if b.toNat = 3 then some .draining else none) ∧
  ∀ e : Profile,
    e.select .live = e.live.map (fun v => (v.gen, v.engaged, v.shape)) ∧
    e.select .draft = e.draft.map (fun d => (0, 0, d)) ∧
    e.select .draining = e.draining.map (fun v => (v.gen, v.engaged, v.shape)) ∧
    profileEntryData e =
      { b4 := BitVec.ofBool e.live.isSome ++ BitVec.ofBool e.draft.isSome ++ BitVec.ofBool e.draining.isSome ++
          BitVec.ofBool e.withheld ++ 0#2 ++
          (if e.live.isSome then 2#2 else if e.draft.isSome then 1#2 else 0#2)
        b5 := BitVec.ofNat 8 (e.highWater / 256), b6 := BitVec.ofNat 8 e.highWater
        b7 := BitVec.ofNat 8 e.bindingCount, b8 := BitVec.ofNat 8 e.failureRun } ∧
    ∀ (gen engaged : Nat) (sh : Shape),
      shapeData gen engaged sh =
        { b4 := BitVec.ofNat 8 (gen / 256), b5 := BitVec.ofNat 8 gen, b6 := BitVec.ofNat 8 engaged
          b7 := BitVec.ofNat 8 sh.energize.length, b8 := BitVec.ofNat 8 sh.release.length }

/-- SET_PHASE rewrites the entry at a position its sequence holds and SET_FIELDS replaces one group of the draft's fields; both
leave the pool and everything else, and refuse what is out of range (R33, R34, R38, R39). -/
def Obligations.SetPhaseAndSetFieldsRewriteDraft : Prop :=
  ∀ (f : Frame) (s : State) (p : ProfileId), f.b2.toNat = p.val + 1 →
    (s.admits .setPhase f →
      ((s.profile p).draft = none → exec (.setPhase f) s = .next (s.replied .setPhase f .noDraft {})) ∧
      (∀ d : Shape, (s.profile p).draft = some d →
        (entryOf f = none ∨ (d.seqOf (positionSeq f.b3)).length ≤ positionIndex f.b3 →
          exec (.setPhase f) s = .next (s.replied .setPhase f .badParam {})) ∧
        (∀ e : PhaseEntry, entryOf f = some e → positionIndex f.b3 < (d.seqOf (positionSeq f.b3)).length →
          exec (.setPhase f) s = .next
            ((s.setProfile p
              { s.profile p with
                draft := some
                  (match positionSeq f.b3 with
                  | .energize => { d with energize := d.energize.set (positionIndex f.b3) e }
                  | .release => { d with release := d.release.set (positionIndex f.b3) e }) }).replied .setPhase f .ok
              { b4 := BitVec.ofNat 8 (d.seqOf (positionSeq f.b3)).length, b5 := BitVec.ofNat 8 s.free })))) ∧
    (s.admits .setFields f →
      ((s.profile p).draft = none → exec (.setFields f) s = .next (s.replied .setFields f .noDraft {})) ∧
      (∀ d : Shape, (s.profile p).draft = some d →
        (fieldsOf f d.fields = none → exec (.setFields f) s = .next (s.replied .setFields f .badParam {})) ∧
        (∀ v : Fields, fieldsOf f d.fields = some v →
          exec (.setFields f) s = .next
            ((s.setProfile p { s.profile p with draft := some { d with fields := v } }).replied .setFields f .ok {}))))

/-- INSERT_PHASE takes one pool entry and places it, SEQ_FULL before POOL_FULL; DELETE_PHASE removes one and frees it; the other
entries keep their order. The largest counts of SEQ_FULL are 6 energize entries and 2 release entries (R29, R33, R35, R36, R37). -/
def Obligations.InsertAndDeletePhaseMoveOneEntry : Prop :=
  (maxCount .energize = 6 ∧ maxCount .release = 2) ∧
  ∀ (f : Frame) (s : State) (p : ProfileId), f.b2.toNat = p.val + 1 →
    (s.admits .insertPhase f →
      ((s.profile p).draft = none → exec (.insertPhase f) s = .next (s.replied .insertPhase f .noDraft {})) ∧
      (∀ d : Shape, (s.profile p).draft = some d →
        (entryOf f = none ∨ (d.seqOf (positionSeq f.b3)).length < positionIndex f.b3 →
          exec (.insertPhase f) s = .next (s.replied .insertPhase f .badParam {})) ∧
        (∀ e : PhaseEntry, entryOf f = some e → positionIndex f.b3 ≤ (d.seqOf (positionSeq f.b3)).length →
          (maxCount (positionSeq f.b3) ≤ (d.seqOf (positionSeq f.b3)).length →
            exec (.insertPhase f) s = .next (s.replied .insertPhase f .seqFull {})) ∧
          ((d.seqOf (positionSeq f.b3)).length < maxCount (positionSeq f.b3) → s.free = 0 →
            exec (.insertPhase f) s = .next (s.replied .insertPhase f .poolFull {})) ∧
          ((d.seqOf (positionSeq f.b3)).length < maxCount (positionSeq f.b3) → 0 < s.free → ∃ d' : Shape,
            exec (.insertPhase f) s = .next
              ({ s.setProfile p { s.profile p with draft := some d' } with free := s.free - 1 }.replied .insertPhase f .ok
                { b4 := BitVec.ofNat 8 ((d.seqOf (positionSeq f.b3)).length + 1), b5 := BitVec.ofNat 8 (s.free - 1) }) ∧
            d'.fields = d.fields ∧
            (∀ q, q ≠ positionSeq f.b3 → d'.seqOf q = d.seqOf q) ∧
            d'.seqOf (positionSeq f.b3) =
              (d.seqOf (positionSeq f.b3)).take (positionIndex f.b3) ++
                e :: (d.seqOf (positionSeq f.b3)).drop (positionIndex f.b3))))) ∧
    (s.admits .deletePhase f →
      ((s.profile p).draft = none → exec (.deletePhase f) s = .next (s.replied .deletePhase f .noDraft {})) ∧
      (∀ d : Shape, (s.profile p).draft = some d →
        ((d.seqOf (positionSeq f.b3)).length ≤ positionIndex f.b3 →
          exec (.deletePhase f) s = .next (s.replied .deletePhase f .badParam {})) ∧
        (positionIndex f.b3 < (d.seqOf (positionSeq f.b3)).length → ∃ d' : Shape,
          exec (.deletePhase f) s = .next
            ({ s.setProfile p { s.profile p with draft := some d' } with free := s.free + 1 }.replied .deletePhase f .ok
              { b4 := BitVec.ofNat 8 ((d.seqOf (positionSeq f.b3)).length - 1), b5 := BitVec.ofNat 8 (s.free + 1) }) ∧
          d'.fields = d.fields ∧
          (∀ q, q ≠ positionSeq f.b3 → d'.seqOf q = d.seqOf q) ∧
          d'.seqOf (positionSeq f.b3) =
            (d.seqOf (positionSeq f.b3)).take (positionIndex f.b3) ++
              (d.seqOf (positionSeq f.b3)).drop (positionIndex f.b3 + 1))))

/-- READ_PHASE, READ_POOL and CHECK_DRAFT answer and change nothing; the four numbers of READ_POOL add to 160 where the pool is
accounted for (R41, R42, R59). -/
def Obligations.PhaseReadsAndCheckDraftAnswer : Prop :=
  (∀ (f : Frame) (s : State) (p : ProfileId), s.admits .readPhase f → f.b2.toNat = p.val + 1 →
    (versionSelector? f.b3 = none → exec (.readPhase f) s = .next (s.replied .readPhase f .badParam {})) ∧
    (∀ sel, versionSelector? f.b3 = some sel →
      ((s.profile p).select sel = none → exec (.readPhase f) s = .next (s.replied .readPhase f .noVersion {})) ∧
      (∀ gen engaged sh, (s.profile p).select sel = some (gen, engaged, sh) →
        ((sh.seqOf (positionSeq f.b4)).length ≤ positionIndex f.b4 →
          exec (.readPhase f) s = .next (s.replied .readPhase f .badParam {})) ∧
        (∀ e, (sh.seqOf (positionSeq f.b4))[positionIndex f.b4]? = some e →
          exec (.readPhase f) s = .next
            (s.replied .readPhase f .ok (entryData e (sh.seqOf (positionSeq f.b4)).length)))))) ∧
  (∀ (f : Frame) (s : State), s.admits .readPool f → PoolAccounted s → ∃ free live drafts draining : Nat,
    free = s.free ∧ live = s.heldLive ∧ drafts = s.heldDrafts ∧ draining = s.heldDraining ∧
    free + live + drafts + draining = 160 ∧
    exec (.readPool f) s = .next
      (s.replied .readPool f .ok
        { b4 := BitVec.ofNat 8 free, b5 := BitVec.ofNat 8 live, b6 := BitVec.ofNat 8 drafts
          b7 := BitVec.ofNat 8 draining })) ∧
  ∀ (f : Frame) (s : State) (p : ProfileId), s.admits .checkDraft f → f.b2.toNat = p.val + 1 →
    ((s.profile p).draft = none → exec (.checkDraft f) s = .next (s.replied .checkDraft f .noDraft {})) ∧
    (∀ d : Shape, (s.profile p).draft = some d →
      (runChecks d = .pass → exec (.checkDraft f) s = .next (s.replied .checkDraft f .ok {})) ∧
      (∀ n pos, runChecks d = .fail n pos →
        exec (.checkDraft f) s = .next
          (s.replied .checkDraft f .checkFailed { b4 := BitVec.ofNat 8 n, b5 := positionByte pos })))

/-! ### The layouts and the checks -/

/-- What a reply says of a phase entry and of a field group, a request with the same bytes would write: the codings of reads and
writes agree (R27, R28, R197, 12.4). The bits of both are those of 12.4: a request's entry and field group are read from them where
every value is in its range and are none where one is not, an absent item whatever its value bits hold, and a reply carries 0 in the
value bits of an absent one (R27, R28, R38, R39, R197). -/
def Obligations.RepliesCarryWhatRequestsWrite : Prop :=
  (∀ (e : PhaseEntry) (count : Nat) (f : Frame), e.kept = true → count ≤ 6 →
    f.b4 = (entryData e count).b4 → f.b5 = (entryData e count).b5 → f.b6 = (entryData e count).b6 →
    f.b7 = (entryData e count).b7 → f.b8 = (entryData e count).b8 → f.b9 = (entryData e count).b9 →
    f.b10 = (entryData e count).b10 → entryOf f = some e) ∧
  (∀ (v old : Fields) (f : Frame), v.kept = true →
    (f.b3 = 3 → f.b4 = (timingData v).b4 → f.b5 = (timingData v).b5 → f.b6 = (timingData v).b6 → f.b7 = (timingData v).b7 →
      f.b8 = (timingData v).b8 → f.b9 = (timingData v).b9 →
      fieldsOf f old = some
        { old with
          minOn := v.minOn, holdCap := v.holdCap, hitTolerance := v.hitTolerance, failureThreshold := v.failureThreshold }) ∧
    (f.b3 = 4 → f.b4 = (motionData v).b4 → f.b5 = (motionData v).b5 → f.b6 = (motionData v).b6 → f.b7 = (motionData v).b7 →
      f.b8 = (motionData v).b8 → f.b9 = (motionData v).b9 →
      fieldsOf f old = some
        { old with
          dipThreshold := v.dipThreshold, dipPersistence := v.dipPersistence, travelWindow := v.travelWindow }) ∧
    (f.b3 = 5 → f.b4 = (resistanceData v).b4 → f.b5 = (resistanceData v).b5 → f.b6 = (resistanceData v).b6 →
      f.b7 = (resistanceData v).b7 → f.b8 = (resistanceData v).b8 →
      fieldsOf f old = some { old with resistanceWindow := v.resistanceWindow })) ∧
  -- the bits of a request's entry
  (∀ (f : Frame) (e : PhaseEntry), entryOf f = some e ↔
    f.b4.toNat % 8 =
      (match e.kind with | .rampCurrent => 1 | .holdCurrent => 2 | .driveDuty => 3 | .fastDecay => 4 | .coast => 5) ∧
    e.hit = f.b4.getLsbD 7 ∧ e.motion = f.b4.getLsbD 6 ∧
    e.level = (f.b5.toNat * 256 + f.b6.toNat) % 1024 ∧ e.duration = f.b7.toNat * 256 + f.b8.toNat ∧
    e.start = (if f.b9.getLsbD 7 then some ((f.b9.toNat * 256 + f.b10.toNat) % 1024) else none) ∧
    (e.level ≤ if e.kind = .driveDuty then 255 else 1023) ∧ e.duration ≤ 60000 ∧
    (e.start.isSome = true → e.kind = .rampCurrent)) ∧
  -- the position byte of a request
  (∀ b : Byte, positionIndex b = b.toNat % 8 ∧ positionSeq b = if b.getLsbD 6 then .release else .energize) ∧
  -- the bits of a request's field block
  (∀ (f : Frame) (old v : Fields),
    (f.b3.toNat < 3 ∨ 5 < f.b3.toNat → fieldsOf f old = none) ∧
    (f.b3.toNat = 3 → (fieldsOf f old = some v ↔
      v = { old with
        minOn := f.b4.toNat * 256 + f.b5.toNat, holdCap := f.b6.toNat * 256 + f.b7.toNat
        hitTolerance := f.b8.toNat, failureThreshold := f.b9.toNat % 16 } ∧
      v.minOn ≤ 20000 ∧ 1 ≤ v.holdCap ∧ v.holdCap ≤ 6000 ∧ v.hitTolerance ≤ 50)) ∧
    (f.b3.toNat = 4 → (fieldsOf f old = some v ↔
      v = { old with
        dipThreshold := if f.b4.getLsbD 7 then some (f.b4.toNat % 128) else none
        dipPersistence := f.b5.toNat % 32
        travelWindow := if f.b5.getLsbD 7 then
          some { lo := f.b6.toNat * 256 + f.b7.toNat, hi := f.b8.toNat * 256 + f.b9.toNat } else none } ∧
      (∀ t, v.dipThreshold = some t → 1 ≤ t ∧ t ≤ 100) ∧ 2 ≤ v.dipPersistence ∧ v.dipPersistence ≤ 30 ∧
      ∀ w, v.travelWindow = some w → 1 ≤ w.lo ∧ w.lo ≤ 60000 ∧ 1 ≤ w.hi ∧ w.hi ≤ 60000)) ∧
    (f.b3.toNat = 5 → (fieldsOf f old = some v ↔
      v = { old with
        resistanceWindow := if f.b4.getLsbD 7 then
          some { lo := f.b5.toNat * 256 + f.b6.toNat, hi := f.b7.toNat * 256 + f.b8.toNat } else none } ∧
      ∀ w, v.resistanceWindow = some w → 1 ≤ w.lo ∧ 1 ≤ w.hi))) ∧
  -- the bits of the replies
  (∀ (e : PhaseEntry) (count : Nat), e.kept = true → count ≤ 6 →
    entryData e count =
      { b4 := BitVec.ofBool e.hit ++ BitVec.ofBool e.motion ++ BitVec.ofNat 3 count ++
          (match e.kind with | .rampCurrent => 1#3 | .holdCurrent => 2#3 | .driveDuty => 3#3 | .fastDecay => 4#3 | .coast => 5#3)
        b5 := BitVec.ofNat 8 (e.level / 256), b6 := BitVec.ofNat 8 e.level
        b7 := BitVec.ofNat 8 (e.duration / 256), b8 := BitVec.ofNat 8 e.duration
        b9 := BitVec.ofBool e.start.isSome ++ BitVec.ofNat 7 (e.start.getD 0 / 256), b10 := BitVec.ofNat 8 (e.start.getD 0) }) ∧
  (∀ v : Fields, v.kept = true → ∀ travel resistance : Window, travel = v.travelWindow.getD { lo := 0, hi := 0 } →
    resistance = v.resistanceWindow.getD { lo := 0, hi := 0 } →
    timingData v =
      { b4 := BitVec.ofNat 8 (v.minOn / 256), b5 := BitVec.ofNat 8 v.minOn
        b6 := BitVec.ofNat 8 (v.holdCap / 256), b7 := BitVec.ofNat 8 v.holdCap
        b8 := BitVec.ofNat 8 v.hitTolerance, b9 := 0#4 ++ BitVec.ofNat 4 v.failureThreshold } ∧
    motionData v =
      { b4 := BitVec.ofBool v.dipThreshold.isSome ++ BitVec.ofNat 7 (v.dipThreshold.getD 0)
        b5 := BitVec.ofBool v.travelWindow.isSome ++ 0#2 ++ BitVec.ofNat 5 v.dipPersistence
        b6 := BitVec.ofNat 8 (travel.lo / 256), b7 := BitVec.ofNat 8 travel.lo
        b8 := BitVec.ofNat 8 (travel.hi / 256), b9 := BitVec.ofNat 8 travel.hi } ∧
    resistanceData v =
      { b4 := BitVec.ofBool v.resistanceWindow.isSome ++ 0#7
        b5 := BitVec.ofNat 8 (resistance.lo / 256), b6 := BitVec.ofNat 8 resistance.lo
        b7 := BitVec.ofNat 8 (resistance.hi / 256), b8 := BitVec.ofNat 8 resistance.hi })

/-- A shape passes the acceptance checks exactly when it meets all eleven (R47 to R58). One that does not is reported with the number
of the first check it fails and the position that check's rule names: none for A1 and A11, the first entry in scan order that breaks
the check for A2 to A6 and A10, and for A7 the first entry that breaks the run or may hold no mark, or none where no entry is marked
(R47 to R54, R57, R58; the two window checks have a statement of their own). A reply codes a position as 12.4 has it. -/
def Obligations.AcceptedShapesMeetEveryCheck : Prop :=
  (∀ sh : Shape, runChecks sh = .pass ↔
    -- A1
    (1 ≤ sh.energize.length ∧ sh.energize.length ≤ 6) ∧
    -- A2
    (∀ e ∈ sh.energize, e.kind = .rampCurrent ∨ e.kind = .holdCurrent ∨ e.kind = .driveDuty) ∧
    (∀ e ∈ sh.release, e.kind = .fastDecay ∨ e.kind = .coast) ∧
    -- A3
    (∀ (i : Nat) e, sh.energize[i]? = some e → e.duration = 0 →
      i + 1 = sh.energize.length ∧ (e.kind = .holdCurrent ∨ e.kind = .driveDuty)) ∧
    (∀ e ∈ sh.release, 1 ≤ e.duration) ∧
    -- A4
    (∀ e ∈ sh.energize,
      (e.kind = .rampCurrent → e.level ≤ 400 ∧ ∀ v, e.start = some v → v ≤ 400) ∧
      (e.kind = .holdCurrent → e.level ≤ if e.duration = 0 then 300 else 400) ∧
      (e.kind = .driveDuty → e.duration = 0 → e.level ≤ 192)) ∧
    -- A5
    (∀ (i : Nat) e, sh.energize[i]? = some e → e.kind = .rampCurrent →
      (i = 0 ∨ ∃ e', sh.energize[i - 1]? = some e' ∧ e'.kind = .driveDuty) → e.start.isSome = true) ∧
    -- A6
    ((sh.energize ++ sh.release).filter fun e => e.hit).length ≤ 1 ∧
    (∀ e ∈ sh.energize ++ sh.release, e.hit = true →
      (e.kind = .rampCurrent ∨ e.kind = .holdCurrent) ∧ 1 ≤ e.duration) ∧
    -- A7
    (sh.fields.dipThreshold = none → ∀ e ∈ sh.energize ++ sh.release, e.motion = false) ∧
    (sh.fields.dipThreshold.isSome = true →
      (∀ e ∈ sh.release, e.motion = false) ∧
      ∃ before run after, sh.energize = before ++ run ++ after ∧ run ≠ [] ∧ (∀ e ∈ run, e.motion = true) ∧
        ∀ e ∈ before ++ after, e.motion = false) ∧
    -- A8
    (∀ w, sh.fields.travelWindow = some w → sh.fields.dipThreshold.isSome = true ∧ w.lo ≤ w.hi) ∧
    -- A9
    (∀ w, sh.fields.resistanceWindow = some w →
      (∃ e, sh.energize.getLast? = some e ∧ e.kind = .holdCurrent ∧ e.duration = 0) ∧ w.lo ≤ w.hi) ∧
    -- A10
    (sh.energize.map fun e => e.duration).sum ≤ 65535 ∧
    -- A11
    ((∀ e ∈ sh.energize, e.duration ≠ 0) → sh.fields.minOn ≤ (sh.energize.map fun e => e.duration).sum)) ∧
  -- the first failure is reported
  (∀ (sh : Shape) (n : Nat) (pos : Option (Seq × Nat)), runChecks sh = .fail n pos ↔
    ∃ before after : List Judgment,
      [checkA1 sh, checkA2 sh, checkA3 sh, checkA4 sh, checkA5 sh, checkA6 sh, checkA7 sh, checkA8 sh, checkA9 sh, checkA10 sh,
        checkA11 sh] = before ++ some pos :: after ∧
      (∀ x ∈ before, x = none) ∧ n = before.length + 1) ∧
  -- with its position
  (∀ sh : Shape,
    checkA1 sh = (if 1 ≤ sh.energize.length ∧ sh.energize.length ≤ 6 then none else some none) ∧
    sh.ReportsFirst (checkA2 sh) (fun q _ e =>
      (q = .energize ∧ (e.kind = .fastDecay ∨ e.kind = .coast)) ∨
        (q = .release ∧ (e.kind = .rampCurrent ∨ e.kind = .holdCurrent ∨ e.kind = .driveDuty))) ∧
    sh.ReportsFirst (checkA3 sh) (fun q i e =>
      e.duration = 0 ∧ (q = .release ∨ i + 1 ≠ sh.energize.length ∨ (e.kind ≠ .holdCurrent ∧ e.kind ≠ .driveDuty))) ∧
    sh.ReportsFirst (checkA4 sh) (fun _ _ e =>
      (e.kind = .rampCurrent ∧ (400 < e.level ∨ ∃ v, e.start = some v ∧ 400 < v)) ∨
        (e.kind = .holdCurrent ∧ (if e.duration = 0 then 300 else 400) < e.level) ∨
        (e.kind = .driveDuty ∧ e.duration = 0 ∧ 192 < e.level)) ∧
    sh.ReportsFirst (checkA5 sh) (fun q i e =>
      q = .energize ∧ e.kind = .rampCurrent ∧ e.start = none ∧
        (i = 0 ∨ ∃ x, sh.energize[i - 1]? = some x ∧ x.kind = .driveDuty)) ∧
    sh.ReportsFirst (checkA6 sh) (fun q i e =>
      e.hit = true ∧
        ((∃ j x, j < i ∧ (sh.seqOf q)[j]? = some x ∧ x.hit = true) ∨
          (q = .release ∧ ∃ x ∈ sh.energize, x.hit = true) ∨
          (e.kind ≠ .rampCurrent ∧ e.kind ≠ .holdCurrent) ∨ e.duration = 0)) ∧
    (sh.fields.dipThreshold = none → sh.ReportsFirst (checkA7 sh) (fun _ _ e => e.motion = true)) ∧
    (sh.fields.dipThreshold.isSome = true →
      (∀ q i, checkA7 sh = some (some (q, i)) ↔ sh.FirstBreak
        (fun q i e => e.motion = true ∧
          (q = .release ∨ ∃ j k x y, j < k ∧ k < i ∧ sh.energize[j]? = some x ∧ x.motion = true ∧
            sh.energize[k]? = some y ∧ y.motion = false)) q i) ∧
      (checkA7 sh = some none ↔ ∀ e ∈ sh.energize ++ sh.release, e.motion = false)) ∧
    sh.ReportsFirst (checkA10 sh) (fun q i _ =>
      q = .energize ∧ 65535 < ((sh.energize.take (i + 1)).map fun e => e.duration).sum) ∧
    checkA11 sh =
      (if (∀ e ∈ sh.energize, e.duration ≠ 0) ∧ (sh.energize.map fun e => e.duration).sum < sh.fields.minOn then some none
        else none)) ∧
  positionByte none = 0 ∧
  ∀ i : Nat, i < 6 →
    positionByte (some (.energize, i)) = 1#1 ++ 0#1 ++ 0#3 ++ BitVec.ofNat 3 i ∧
    positionByte (some (.release, i)) = 1#1 ++ 1#1 ++ 0#3 ++ BitVec.ofNat 3 i

/-- The checks of the two windows: A8 fails with position none; A9 fails with the position of the last energize entry where the
window is misplaced, and with position none where its bounds are out of order; equal bounds and absent windows pass (R55, R56).
On an energize sequence with no entry, which A1 has refused before, A9 has no position to report. -/
def Obligations.WindowChecksReportTheirPosition : Prop :=
  ∀ sh : Shape,
    (sh.fields.travelWindow = none → checkA8 sh = none) ∧
    (∀ w, sh.fields.travelWindow = some w →
      checkA8 sh = if sh.fields.dipThreshold = none ∨ w.hi < w.lo then some none else none) ∧
    (sh.fields.resistanceWindow = none → checkA9 sh = none) ∧
    (∀ w before e, sh.fields.resistanceWindow = some w → sh.energize = before ++ [e] →
      checkA9 sh =
        if e.kind ≠ .holdCurrent ∨ e.duration ≠ 0 then some (some (.energize, before.length))
        else if w.hi < w.lo then some none else none)

/-! ### Channels -/

/-- A channel number of 8 or more is answered BAD_TARGET, and nothing changes; for CLEAR_FAULTS the target ALL, coded 255, is none
(R65, R67, R70, R71, R77, R96, R120, R146, 12.4). That it comes before BAD_PARAM in READ_CHANNEL and READ_OUTCOME, whose rules state no
order of the two, is the model's choice (notes/assumptions/39.md). -/
def Obligations.OutOfRangeChannelIsBadTarget : Prop :=
  ∀ (c : Command) (f : Frame) (s : State), s.admits c f →
    c ∈ [.bind, .unbind, .setChannel, .readChannel, .actuate, .release, .readOutcome, .clearFaults] → 8 ≤ f.b2.toNat →
    (c = .clearFaults → f.b2.toNat ≠ 255) → exec (linkInstr c f) s = .next (s.replied c f .badTarget {})

/-- BIND and UNBIND: their refusals, the binding set or removed with the counts of the profiles concerned, and the edge-armed flag
set from the line where the channel becomes READY; on a driving channel UNBIND leaves the removal pending (R6, R65, R66, R67, R73).
That a channel becoming READY on a line not yet sampled is not edge-armed is the model's choice: R73 speaks of a line last seen
asserted or deasserted (notes/assumptions/7.md). -/
def Obligations.BindAndUnbindMoveBindingAndCounts : Prop :=
  ∀ (f : Frame) (s : State) (ch : ChannelId), f.b2.toNat = ch.val →
    (∀ p : ProfileId, s.admits .bind f → f.b3.toNat = p.val + 1 →
      ((s.channel ch).running.isSome = true → exec (.bind f) s = .next (s.replied .bind f .busy {})) ∧
      ((s.channel ch).running = none → (s.profile p).live = none →
        exec (.bind f) s = .next (s.replied .bind f .noProfile {})) ∧
      ((s.channel ch).running = none → (s.profile p).live.isSome = true →
        ((s.channel ch).binding = some p →
          exec (.bind f) s = .next
            (s.replied .bind f .ok
              { b4 := if (s.chFault ch).latched then 5 else 1, b5 := BitVec.ofNat 8 (s.profile p).bindingCount })) ∧
        ((s.channel ch).binding = none →
          exec (.bind f) s = .next
            (((s.setProfile p { s.profile p with bindingCount := (s.profile p).bindingCount + 1 }).setChannel ch
              { s.channel ch with
                binding := some p
                edgeArmed := if (s.chFault ch).latched then (s.channel ch).edgeArmed
                  else decide ((s.channel ch).ctlSeen = .deasserted) }).replied .bind f .ok
              { b4 := if (s.chFault ch).latched then 5 else 1
                b5 := BitVec.ofNat 8 ((s.profile p).bindingCount + 1) })) ∧
        (∀ q : ProfileId, (s.channel ch).binding = some q → q ≠ p →
          exec (.bind f) s = .next
            ((((s.setProfile q { s.profile q with bindingCount := (s.profile q).bindingCount - 1 }).setProfile p
              { s.profile p with bindingCount := (s.profile p).bindingCount + 1 }).setChannel ch
              { s.channel ch with binding := some p }).replied .bind f .ok
              { b4 := if (s.chFault ch).latched then 5 else 1
                b5 := BitVec.ofNat 8 ((s.profile p).bindingCount + 1) })))) ∧
    (s.admits .unbind f →
      ((s.channel ch).running.isSome = true →
        ((s.channel ch).unbindPending = true → exec (.unbind f) s = .next (s.replied .unbind f .unbindPending {})) ∧
        ((s.channel ch).unbindPending = false →
          exec (.unbind f) s = .next
            ((s.setChannel ch { s.channel ch with unbindPending := true }).replied .unbind f .ok { b4 := 2 }))) ∧
      ((s.channel ch).running = none →
        ((s.channel ch).binding = none → exec (.unbind f) s = .next (s.replied .unbind f .unbound {})) ∧
        (∀ q : ProfileId, (s.channel ch).binding = some q →
          exec (.unbind f) s = .next
            (((s.setProfile q { s.profile q with bindingCount := (s.profile q).bindingCount - 1 }).setChannel ch
              { s.channel ch with binding := none, edgeArmed := false }).replied .unbind f .ok { b4 := 1 }))))

/-- SET_CHANNEL replaces both settings of a channel that is not driving, and removes the pull where it turns the check off;
READ_CHANNEL answers, laid out as 12.6 has it, and changes nothing (R62, R70, R71, R138, R139). -/
def Obligations.SetAndReadChannel : Prop :=
  ∀ (f : Frame) (s : State) (ch : ChannelId),
    (f.b2.toNat = ch.val →
    (s.admits .setChannel f →
      (f.b3.toNat % 4 = 0 → exec (.setChannel f) s = .next (s.replied .setChannel f .badParam {})) ∧
      (∀ t : TriggerSource, f.b3.toNat % 4 = triggerCode t →
        ((s.channel ch).running.isSome = true → exec (.setChannel f) s = .next (s.replied .setChannel f .busy {})) ∧
        ((s.channel ch).running = none →
          (f.b3.getLsbD 7 = true →
            exec (.setChannel f) s = .next
              ((s.setChannel ch { s.channel ch with trigger := t, openLoadCheck := true }).replied .setChannel f .ok
                { b4 := BitVec.ofNat 8 (128 + triggerCode t) })) ∧
          (f.b3.getLsbD 7 = false →
            exec (.setChannel f) s = .next
              (((s.setChannel ch { s.channel ch with trigger := t, openLoadCheck := false }).setChFault ch
                { s.chFault ch with pull := .notRunning, window := 0 }).replied .setChannel f .ok
                { b4 := BitVec.ofNat 8 (triggerCode t) }))))) ∧
    (s.admits .readChannel f →
      (f.b3 = 1 → exec (.readChannel f) s = .next (s.replied .readChannel f .ok (setupData s ch))) ∧
      (f.b3 = 2 → exec (.readChannel f) s = .next (s.replied .readChannel f .ok (activityData s ch))) ∧
      (f.b3 ≠ 1 → f.b3 ≠ 2 → exec (.readChannel f) s = .next (s.replied .readChannel f .badParam {})))) ∧
    [TriggerSource.pin, .link, .either].map triggerCode = [1, 2, 3] ∧
    ∀ activity : Nat,
      activity =
        (match (s.channel ch).running with
        | some a => if a.seq = .release then 4 else if (s.phaseOf a).any (fun ph => ph.duration = 0) then 3 else 2
        | none =>
          if (s.chFault ch).overcurrent = true ∨ (s.chFault ch).openLoad = true then 5
          else if (s.channel ch).binding.isSome then 1 else 0) →
      setupData s ch =
        { b4 := match (s.channel ch).binding with | none => 0 | some p => BitVec.ofNat 8 (p.val + 1)
          b5 := BitVec.ofBool (s.channel ch).unbindPending ++ BitVec.ofBool (s.channel ch).openLoadCheck ++
            BitVec.ofBool (s.channel ch).edgeArmed ++ BitVec.ofBool (decide ((s.channel ch).ctlSeen = .asserted)) ++
            BitVec.ofBool (s.channel ch).unread ++ 0#1 ++
            (match (s.channel ch).trigger with | .pin => 1#2 | .link => 2#2 | .either => 3#2)
          b6 := BitVec.ofNat 8 activity } ∧
      ((s.channel ch).running = none → activityData s ch = { b4 := BitVec.ofNat 8 activity }) ∧
      ∀ a : Actuation, (s.channel ch).running = some a →
        activityData s ch =
          { flags := BitVec.ofBool (decide (a.origin = .link)) ++
              BitVec.ofBool (!(s.profile a.profile).live.any fun v => v.gen = a.gen) ++ BitVec.ofBool a.heldFrom.isSome
            nibble := 0#1 ++ BitVec.ofNat 3 a.pos
            b4 := BitVec.ofNat 5 a.profile.val ++ BitVec.ofNat 3 activity
            b5 := BitVec.ofNat 8 (a.gen / 256), b6 := BitVec.ofNat 8 a.gen
            b7 := BitVec.ofNat 8 (min 65535 (a.time / 2) / 256), b8 := BitVec.ofNat 8 (min 65535 (a.time / 2))
            b9 := BitVec.ofNat 8 (min 65535 (a.phaseTime / 2) / 256), b10 := BitVec.ofNat 8 (min 65535 (a.phaseTime / 2)) }

/-- ACTUATE: its refusals in order, each of which changes nothing, and the start of an actuation with origin LINK on the live
version of the profile that a READY channel is bound to (R7, R77, R78, R103). -/
def Obligations.ActuateStartsReadyChannel : Prop :=
  ∀ (f : Frame) (s : State) (ch : ChannelId), s.admits .actuate f → f.b2.toNat = ch.val →
    ((s.channel ch).trigger = .pin → exec (.actuate f) s = .next (s.replied .actuate f .wrongSource {})) ∧
    ((s.channel ch).trigger ≠ .pin →
      ((s.channel ch).running.isSome = true →
        exec (.actuate f) s = .next
          (s.replied .actuate f (if (s.channel ch).unbindPending then .unbindPending else .busy) {})) ∧
      ((s.channel ch).running = none →
        ((s.chFault ch).latched = true → exec (.actuate f) s = .next (s.replied .actuate f .faulted {})) ∧
        ((s.chFault ch).latched = false →
          ((s.channel ch).binding = none → exec (.actuate f) s = .next (s.replied .actuate f .unbound {})) ∧
          (∀ (p : ProfileId) (v : Version), (s.channel ch).binding = some p → (s.profile p).live = some v →
            ((s.profile p).withheld = true → exec (.actuate f) s = .next (s.replied .actuate f .withheld {})) ∧
            ((s.profile p).withheld = false →
              exec (.actuate f) s = .next
                ((s.started ch .link p v).replied .actuate f .ok
                  { b4 := BitVec.ofNat 8 (p.val + 1), b5 := BitVec.ofNat 8 (v.gen / 256), b6 := BitVec.ofNat 8 v.gen }))))))

/-- RELEASE: NOT_ACTIVE on a channel that is not ENERGIZING or HOLDING; of no effect while a release is held; taken at once from
min_on on; held before it, with the time remaining rounded up (R82, R93, R94, R95, R96). -/
def Obligations.ReleaseTakenHeldOrRefused : Prop :=
  ∀ (f : Frame) (s : State) (ch : ChannelId), s.admits .release f → f.b2.toNat = ch.val →
    ((s.channel ch).running = none → exec (.release f) s = .next (s.replied .release f .notActive {})) ∧
    (∀ a : Actuation, (s.channel ch).running = some a →
      (a.seq = .release → exec (.release f) s = .next (s.replied .release f .notActive {})) ∧
      (a.seq = .energize →
        (a.heldFrom.isSome = true → ∃ n : Nat, n = (2 * (s.shapeOf a).fields.minOn - a.time + 1) / 2 ∧
          exec (.release f) s = .next
            (s.replied .release f .ok { b4 := 3, b5 := BitVec.ofNat 8 (n / 256), b6 := BitVec.ofNat 8 n })) ∧
        (a.heldFrom = none → a.time < 2 * (s.shapeOf a).fields.minOn →
          ∃ n : Nat, n = (2 * (s.shapeOf a).fields.minOn - a.time + 1) / 2 ∧
          exec (.release f) s = .next
            ((s.holding ch a .link).replied .release f .ok
              { b4 := 2, b5 := BitVec.ofNat 8 (n / 256), b6 := BitVec.ofNat 8 n })) ∧
        (a.heldFrom = none → 2 * (s.shapeOf a).fields.minOn ≤ a.time → ∃ t : State,
          exec (.release f) s = .next (t.replied .release f .ok { b4 := 1 }) ∧ s.LeavesEnergize t ch a .releasedLink)))

/-- READ_OUTCOME answers the part it names of the record as it stood, laid out as 12.7 has it, and clears the unread flag of a held
record; nothing else changes, and the previous-unread mark stays. An EMPTY record reads as 0 throughout (R117, R119, R120, R197). -/
def Obligations.ReadOutcomeClearsUnread : Prop :=
  (∀ (f : Frame) (s : State) (ch : ChannelId), s.admits .readOutcome f → f.b2.toNat = ch.val →
    (f.b3 ≠ 1 → f.b3 ≠ 2 → exec (.readOutcome f) s = .next (s.replied .readOutcome f .badParam {})) ∧
    ((s.channel ch).outcome = none → f.b3 = 1 ∨ f.b3 = 2 →
      exec (.readOutcome f) s = .next (s.replied .readOutcome f .ok {})) ∧
    (∀ r : OutcomeRecord, (s.channel ch).outcome = some r →
      (f.b3 = 1 →
        exec (.readOutcome f) s = .next
          ((s.setChannel ch { s.channel ch with unread := false }).replied .readOutcome f .ok
            (summaryData (some r) (s.channel ch).unread))) ∧
      (f.b3 = 2 →
        exec (.readOutcome f) s = .next
          ((s.setChannel ch { s.channel ch with unread := false }).replied .readOutcome f .ok
            (measuresData (some r) (s.channel ch).unread))))) ∧
  ∀ (r : OutcomeRecord) (unread : Bool) (d m : ReplyData) (q : MotionMeasures),
    d = summaryData (some r) unread → m = measuresData (some r) unread →
    q = r.motion.getD { travel := 0, peak := 0, valley := 0 } →
    -- SUMMARY
    (d.flags = 1#1 ++ BitVec.ofBool unread ++ BitVec.ofBool r.previousUnread ∧
      d.nibble = BitVec.ofBool (decide (r.versionKind = .draining)) ++ 0#1 ++
        (match r.verdict with | .clean => 1#2 | .flawed => 2#2 | .aborted => 3#2) ∧
      d.b4 = BitVec.ofNat 8 r.number ∧ d.b5 = BitVec.ofNat 8 (r.gen / 256) ∧ d.b6 = BitVec.ofNat 8 r.gen ∧
      d.b7 = BitVec.ofNat 8 (r.duration / 256) ∧ d.b8 = BitVec.ofNat 8 r.duration ∧
      d.b9 ++ d.b10 = BitVec.ofNat 5 r.profile.val ++ BitVec.ofBool (decide (r.origin = .link)) ++
        (match r.cause with
          | .releasedPin => 1#4 | .releasedLink => 2#4 | .selfTimed => 3#4 | .holdExpired => 4#4 | .disarmed => 5#4
          | .overcurrent => 6#4 | .suspendedSupply => 7#4 | .suspendedTemp => 8#4 | .safeStop => 9#4 | .softReset => 10#4) ++
        BitVec.ofBool (decide (Finding.noMotion ∈ r.findings)) ++ BitVec.ofBool (decide (Finding.travelDrift ∈ r.findings)) ++
        BitVec.ofBool (decide (Finding.hitShort ∈ r.findings)) ++ BitVec.ofBool (decide (Finding.resLow ∈ r.findings)) ++
        BitVec.ofBool (decide (Finding.resHigh ∈ r.findings)) ++
        BitVec.ofBool (decide (Finding.earlyReleaseHeld ∈ r.findings))) ∧
    -- MEASURES
    m =
      { flags := 1#1 ++ BitVec.ofBool unread ++ BitVec.ofBool r.resistance.isSome
        nibble := BitVec.ofNat 2 (q.peak / 256) ++ BitVec.ofNat 2 (q.valley / 256)
        b4 := BitVec.ofNat 8 r.number
        b5 := BitVec.ofNat 8 (q.travel / 256), b6 := BitVec.ofNat 8 q.travel
        b7 := BitVec.ofNat 8 q.peak, b8 := BitVec.ofNat 8 q.valley
        b9 := BitVec.ofNat 8 (r.resistance.getD 0 / 256), b10 := BitVec.ofNat 8 (r.resistance.getD 0) }

/-- CTL_ASSERTED and CTL_DEASSERTED: the first sample and a level that does not change are seen as no change; an assertion on a
READY channel is a start request, judged by the edge-armed flag, the mode, the trigger source and the table, and clears the flag
whatever comes of it; a deassertion arms a READY channel and requests the release of an actuation that the line started
(R72, R73, R74, R76, R93, R94, R95). A regulation period samples the line too: one that samples another level than the last is the
same period at the level last seen with the change after it, the sample being taken at the period's end (R72; that it comes last: the
model's choice, notes/assumptions/4.md). -/
def Obligations.LineChangesActByChannelState : Prop :=
  ∀ (s : State) (ch : ChannelId), s.inFullReset = false →
    ((s.channel ch).ctlSeen = .unsampled →
      exec (.ctlAsserted ch) s = .next (s.setChannel ch { s.channel ch with ctlSeen := .asserted }) ∧
      exec (.ctlDeasserted ch) s = .next (s.setChannel ch { s.channel ch with ctlSeen := .deasserted })) ∧
    ((s.channel ch).ctlSeen = .asserted → exec (.ctlAsserted ch) s = .next s) ∧
    ((s.channel ch).ctlSeen = .deasserted → exec (.ctlDeasserted ch) s = .next s) ∧
    ((s.channel ch).ctlSeen = .deasserted →
      (s.ready ch = false → exec (.ctlAsserted ch) s = .next (s.setChannel ch { s.channel ch with ctlSeen := .asserted })) ∧
      (s.ready ch = true → ∀ (p : ProfileId) (v : Version), (s.channel ch).binding = some p → (s.profile p).live = some v →
        ((s.channel ch).edgeArmed = true ∧ s.modes.mode = .armed ∧ (s.channel ch).trigger ≠ .link ∧
            (s.profile p).withheld = false →
          exec (.ctlAsserted ch) s = .next
            ((s.setChannel ch { s.channel ch with ctlSeen := .asserted }).started ch .pin p v)) ∧
        ((s.channel ch).edgeArmed = false ∨ s.modes.mode ≠ .armed ∨ (s.channel ch).trigger = .link ∨
            (s.profile p).withheld = true →
          exec (.ctlAsserted ch) s = .next
            (s.setChannel ch { s.channel ch with ctlSeen := .asserted, edgeArmed := false })))) ∧
    ((s.channel ch).ctlSeen = .asserted → ∀ u : State, u = s.setChannel ch { s.channel ch with ctlSeen := .deasserted } →
      ((s.channel ch).running = none → s.ready ch = true →
        exec (.ctlDeasserted ch) s = .next
          (s.setChannel ch { s.channel ch with ctlSeen := .deasserted, edgeArmed := true })) ∧
      ((s.channel ch).running = none → s.ready ch = false → exec (.ctlDeasserted ch) s = .next u) ∧
      (∀ a : Actuation, (s.channel ch).running = some a →
        (a.seq = .release ∨ a.origin = .link ∨ a.heldFrom.isSome = true → exec (.ctlDeasserted ch) s = .next u) ∧
        (a.seq = .energize → a.origin = .pin → a.heldFrom = none →
          (a.time < 2 * (s.shapeOf a).fields.minOn → exec (.ctlDeasserted ch) s = .next (u.holding ch a .pin)) ∧
          (2 * (s.shapeOf a).fields.minOn ≤ a.time → ∃ t : State,
            exec (.ctlDeasserted ch) s = .next t ∧ u.LeavesEnergize t ch a .releasedPin)))) ∧
    ∀ (r : PeriodReport) (level : LineLevel) (t : State), (s.channel ch).ctlSeen = seenAs level →
      exec (.regulationPeriod (.channel ch { r with ctl := level })) s = .next t →
      exec (.regulationPeriod (.channel ch r)) s =
        match r.ctl with | .asserted => exec (.ctlAsserted ch) t | .deasserted => exec (.ctlDeasserted ch) t

/-! ### Time, actuations and diagnostics -/

/-- A regulation period of a driving channel with nothing due from the period before, its line sampled at the level last seen or, as
the first sample after a full reset, at any level, which it sets (R72; at the period's end: notes/assumptions/4.md): the stage works to the phase at the cursor and both times rise by 1. The diagnostic unit is left as it was in a release phase; in an
energize phase it takes the supply voltage (the model's item: notes/assumptions/24.md), the last period of a HIT phase judges the hit,
and a MOTION phase begins the search, counts a run below the peak less the threshold with its lowest current, breaks it, lowers the
valley of a confirmed dip and finds its end (R82, R84 to R89, R107, R108, R110, R113). A FAST_DECAY that sees no current ends its phase
with the period, and the actuation where it is the last (R88). The applied duty of a decay is the model's choice
(notes/assumptions/23.md), and so is the taking of what is due first (notes/assumptions/4.md). A line sampled at another level: see
LineChangesActByChannelState. What is due is what DIP_CONFIRMED, RESISTANCE_SAMPLE, MIN_ON_REACHED, HOLD_EXPIRED and PHASE_END take: a
period of a channel with something due, an open-load latch too, is the same period on the state that those rows and OPEN_LOAD_LATCH_SET
leave, on which nothing is due. The premise on the hold cap holds of every version in range (R28). -/
def Obligations.DrivingPeriodFollowsPhase : Prop :=
  (∀ (s t u : State) (ch : ChannelId) (r : PeriodReport), s.Runs t (dueRows ch) → exec (.openLoadLatchSet ch) t = .next u →
    (∀ a, (s.channel ch).running = some a → 1 ≤ (s.shapeOf a).fields.holdCap) →
    exec (.regulationPeriod (.channel ch r)) s = exec (.regulationPeriod (.channel ch r)) u ∧
    (s.inFullReset = false → s.settleDue ch = t ∧ u.settleDue ch = u ∧ u.openLoadDue ch = false)) ∧
  ∀ (s : State) (ch : ChannelId) (r : PeriodReport) (a : Actuation) (ph : PhaseEntry), s.inFullReset = false →
    s.settleDue ch = s → (s.channel ch).running = some a →
    (s.channel ch).ctlSeen = .unsampled ∨ (s.channel ch).ctlSeen = seenAs r.ctl → s.phaseOf a = some ph →
    (ph.kind = .fastDecay → r.sensed = 0 → a.seq = .release →
      ∀ st : Stage, st = { s.stage ch with mode := .decay, duty := r.duty.toNat, sensed := 0 } →
      (a.pos + 1 < (s.shapeOf a).release.length →
        exec (.regulationPeriod (.channel ch r)) s = .next
          ((s.setStage ch st).setChannel ch
            { s.channel ch with
              ctlSeen := seenAs r.ctl
              running := some { a with pos := a.pos + 1, time := a.time + 1, phaseTime := 0, entryCurrent := 0 } })) ∧
      (∀ cause, a.noted = some cause → (s.shapeOf a).release.length ≤ a.pos + 1 →
        ∀ t : State, t = ((s.setStage ch st).setChannel ch
            { s.channel ch with
              running := some { a with time := a.time + 1, phaseTime := a.phaseTime + 1 } }).endActuation ch cause →
          exec (.regulationPeriod (.channel ch r)) s = .next
            (t.setChannel ch { t.channel ch with ctlSeen := seenAs r.ctl }))) ∧
    (¬ (ph.kind = .fastDecay ∧ r.sensed = 0) → ∃ (st : Stage) (u : Diag),
      exec (.regulationPeriod (.channel ch r)) s = .next
        (((s.setStage ch st).setChannel ch
          { s.channel ch with
            ctlSeen := seenAs r.ctl
            running := some { a with time := a.time + 1, phaseTime := a.phaseTime + 1 } }).setDiag ch u) ∧
      st.sensed = min 1023 r.sensed ∧
      (ph.kind = .rampCurrent → st.mode = .regulate ∧ st.duty = r.duty.toNat ∧
        st.target = rampTarget (ph.start.getD a.entryCurrent) ph.level (a.phaseTime + 1) (2 * ph.duration)) ∧
      (ph.kind = .holdCurrent → st.mode = .regulate ∧ st.duty = r.duty.toNat ∧ st.target = ph.level) ∧
      (ph.kind = .driveDuty → st.mode = .duty ∧ st.duty = ph.level ∧ st.target = 0) ∧
      (ph.kind = .fastDecay → st.mode = .decay ∧ st.duty = r.duty.toNat ∧ st.target = (s.stage ch).target) ∧
      (ph.kind = .coast → st.mode = .off ∧ st.duty = 0 ∧ st.target = (s.stage ch).target) ∧
      (a.seq = .release → u = s.diag ch) ∧
      (a.seq = .energize → ∃ m : Diag,
        u = { m with
          supply := s.monitor.vs
          hit := if ph.hit = true ∧ a.phaseTime + 1 = 2 * ph.duration ∧ (s.diag ch).hit = .notJudged then
            (if min 1023 r.sensed + (s.shapeOf a).fields.hitTolerance < ph.level then .short else .met) else (s.diag ch).hit } ∧
        (ph.motion = false → m = s.diag ch) ∧
        (ph.motion = true →
          ((s.diag ch).search = .off ∨ (s.diag ch).search = .found ∨ (s.diag ch).search = .closed → m = s.diag ch) ∧
          ((s.diag ch).search = .waiting →
            m = { s.diag ch with
              search := .searching, peak := some (min 1023 r.sensed), dipCount := 0, candStart := none, candLow := none }) ∧
          (∀ peak threshold : Nat, (s.diag ch).search = .searching → (s.diag ch).peak = some peak →
            (s.shapeOf a).fields.dipThreshold = some threshold →
            (min 1023 r.sensed + threshold < peak →
              m = { s.diag ch with
                dipCount := (s.diag ch).dipCount + 1
                candStart := if (s.diag ch).dipCount = 0 then some (a.time + 1) else (s.diag ch).candStart
                candLow := if (s.diag ch).dipCount = 0 then some (min 1023 r.sensed)
                  else some (min ((s.diag ch).candLow.getD (min 1023 r.sensed)) (min 1023 r.sensed)) }) ∧
            (peak ≤ min 1023 r.sensed + threshold →
              m = { s.diag ch with
                dipCount := 0, candStart := none, candLow := none, peak := some (max peak (min 1023 r.sensed)) })) ∧
          (∀ peak valley threshold : Nat, (s.diag ch).search = .inDip → (s.diag ch).dipPeak = some peak →
            (s.diag ch).valley = some valley → (s.shapeOf a).fields.dipThreshold = some threshold →
            (min 1023 r.sensed + threshold < peak → m = { s.diag ch with valley := some (min valley (min 1023 r.sensed)) }) ∧
            (peak ≤ min 1023 r.sensed + threshold → m = { s.diag ch with search := .found })))))

/-- A regulation period of a channel that does not drive: the stage measures, the pull check runs where it is on, but in the period
that a trip fell into, and its window counts on a channel with no latch, and an overcurrent condition ends with a whole period after
the trip whose current is below 500 (R84, R137, R138, R139; the flag for the trip's own period is the model's,
notes/assumptions/21.md). The first sample of the line after a full reset is taken with the period, and one at the level last seen is no
change (R72); one at another level: see LineChangesActByChannelState. A period with an open-load latch due is the same period on the
state that OPEN_LOAD_LATCH_SET leaves (notes/assumptions/4.md). That a check turned on, or an actuation ended other than by a trip, gives
its first result with the very next period is the model's choice (notes/assumptions/41.md). -/
def Obligations.IdlePeriodMeasures : Prop :=
  (∀ (s t : State) (ch : ChannelId) (r : PeriodReport), (s.channel ch).running = none →
    exec (.openLoadLatchSet ch) s = .next t →
    exec (.regulationPeriod (.channel ch r)) s = exec (.regulationPeriod (.channel ch r)) t) ∧
  ∀ (s : State) (ch : ChannelId) (r : PeriodReport), s.inFullReset = false → (s.channel ch).running = none →
    s.openLoadDue ch = false → (s.channel ch).ctlSeen = .unsampled ∨ (s.channel ch).ctlSeen = seenAs r.ctl → ∃ c : Channel,
      exec (.regulationPeriod (.channel ch r)) s = .next
        (((s.setChannel ch c).setStage ch { s.stage ch with sensed := min 1023 r.sensed }).setChFault ch
          { s.chFault ch with
            pull := if (s.channel ch).openLoadCheck = true ∧ (s.chFault ch).tripPeriod = false then
              (if r.outOfBand then .outOfBand else .inBand) else .notRunning
            window := if (s.channel ch).openLoadCheck = true ∧ (s.chFault ch).tripPeriod = false ∧
                (s.chFault ch).latched = false ∧ r.outOfBand = true then
              min 6 ((s.chFault ch).window + 1) else 0
            overcurrentPresent :=
              (s.chFault ch).overcurrentPresent && ((s.chFault ch).tripPeriod || decide (500 ≤ r.sensed))
            tripPeriod := false }) ∧
      ((s.channel ch).ctlSeen ≠ .unsampled → c = s.channel ch) ∧
      ((s.channel ch).ctlSeen = .unsampled → c =
        { s.channel ch with ctlSeen := match r.ctl with | .asserted => .asserted | .deasserted => .deasserted })

/-- The shared regulation period, on measurements that change no condition: the write in flight and the stretch timer go one
period on, and the measurements are kept (R141, R150, R175; the shared period is the model's, notes/assumptions/3.md). A VDD below
2.5 V is a full reset (R143), taken before anything else of the period: the model's choice (notes/assumptions/20.md). A stretch timer
that has reached 0 stops with STRETCH_EXPIRED, or with the next shared period where that comes first, and one that has time left is
not stopped (R150; that the stop is a happening of its own after the period: notes/assumptions/4.md). A measurement that crosses a
bound is the row of its change, UVM_ONSET, UVM_CLEARS, PROG_OK_TRUE or PROG_OK_FALSE for VS and then OVT_ONSET or OVT_CLEARS for the
temperature, on the state that the counts leave, and the level of nSAFE sampled in the period is then the row NSAFE_ASSERTED or
NSAFE_DEASSERTED (R141, R142, R155; the order is the model's choice: notes/assumptions/25.md). A write whose 3 ms have passed and a
stretch that has reached 0 are taken first, as STORE_WRITE_COMPLETE and STRETCH_EXPIRED take them (notes/assumptions/4.md). -/
def Obligations.SharedPeriodMeasuresAndCounts : Prop :=
  (∀ (s : State) (vs vdd : Nat) (temp : Int) (nsafe : LineLevel), s.inFullReset = false → vdd < 250 →
    exec (.regulationPeriod (.shared vs vdd temp nsafe)) s = exec (.fullReset .powerOn) s) ∧
  (∀ (s : State) (vs vdd : Nat) (temp : Int), s.inFullReset = false → 250 ≤ vdd →
    (s.monitor.uvm = false → 600 ≤ vs) → (s.monitor.uvm = true → vs ≤ 650) →
    (s.monitor.ovt = false → temp < 165) → (s.monitor.ovt = true → 145 ≤ temp) →
    (s.monitor.progOk = false → vs < 1100) → (s.monitor.progOk = true → 1050 ≤ vs) →
    (∀ w, s.store.inFlight = some w → 1 ≤ w.remaining) →
    exec (.regulationPeriod (.shared vs vdd temp .deasserted)) s = .next
      { s with
        modes := { s.modes with nsafeSeen := .deasserted }
        store := { s.store with inFlight := s.store.inFlight.map fun w => { w with remaining := w.remaining - 1 } }
        faults := { s.faults with timer := s.faults.timer.bind fun n => if n = 0 then none else some (n - 1) }
        monitor := { s.monitor with vs := min 4095 vs, temp := max (-40) (min 200 temp) } }) ∧
  (∀ (s c t u : State) (vs vdd : Nat) (temp : Int) (nsafe : LineLevel), s.inFullReset = false → 250 ≤ vdd →
    (∀ w, s.store.inFlight = some w → 1 ≤ w.remaining) →
    c = { s with
      store := { s.store with inFlight := s.store.inFlight.map fun w => { w with remaining := w.remaining - 1 } }
      faults := { s.faults with timer := s.faults.timer.bind fun n => if n = 0 then none else some (n - 1) } } →
    (if s.monitor.uvm = false ∧ vs < 600 then exec (.uvmOnset vs) c
      else if s.monitor.uvm = true ∧ 650 < vs then exec (.uvmClears vs) c
      else if s.monitor.progOk = false ∧ 1100 ≤ vs then exec (.progOkTrue vs) c
      else if s.monitor.progOk = true ∧ vs < 1050 then exec (.progOkFalse vs) c
      else .next { c with monitor := { c.monitor with vs := min 4095 vs } }) = .next t →
    (if s.monitor.ovt = false ∧ 165 ≤ temp then exec (.ovtOnset temp) t
      else if s.monitor.ovt = true ∧ temp < 145 then exec (.ovtClears temp) t
      else .next { t with monitor := { t.monitor with temp := max (-40) (min 200 temp) } }) = .next u →
    exec (.regulationPeriod (.shared vs vdd temp nsafe)) s =
      match nsafe with | .asserted => exec .nsafeAsserted u | .deasserted => exec .nsafeDeasserted u) ∧
  (∀ (s t : State) (vs vdd : Nat) (temp : Int) (nsafe : LineLevel),
    (250 ≤ vdd → exec .storeWriteComplete s = .next t →
      exec (.regulationPeriod (.shared vs vdd temp nsafe)) s = exec (.regulationPeriod (.shared vs vdd temp nsafe)) t) ∧
    (exec .stretchExpired s = .next t →
      exec (.regulationPeriod (.shared vs vdd temp nsafe)) s = exec (.regulationPeriod (.shared vs vdd temp nsafe)) t)) ∧
  (∀ s : State, s.inFullReset = false →
    (s.faults.timer = some 0 → exec .stretchExpired s = .next { s with faults := { s.faults with timer := none } }) ∧
    (s.faults.timer ≠ some 0 → exec .stretchExpired s = .next s))

/-- A ramp's targets lie between its start and its level, and at most 400; from levels a live version may have, the last is the
level exactly, and an upward ramp never falls. Each target is on the line, upward or downward, with the fraction of the product dropped
toward zero (R86). -/
def Obligations.RampTargetsStayOnTheLine : Prop :=
  ∀ start level k n : Nat, 0 < n → 1 ≤ k → k ≤ n →
    rampTarget start level k n ≤ 400 ∧
    min 400 (min start level) ≤ rampTarget start level k n ∧
    rampTarget start level k n ≤ max start level ∧
    (level ≤ 400 → rampTarget start level n n = level) ∧
    (start ≤ level → level ≤ 400 → rampTarget start level k n = start + (level - start) * k / n) ∧
    (level ≤ start → rampTarget start level k n = min 400 (start - (start - level) * k / n)) ∧
    (start ≤ level → k < n → rampTarget start level k n ≤ rampTarget start level (k + 1) n)

/-- PHASE_END, HOLD_EXPIRED and MIN_ON_REACHED, where they are due: the cursor moves to the next entry, or leaves the energize
sequence with SELF_TIMED, HOLD_EXPIRED or the held release's cause, or the actuation ends with the cause noted; a held release
that reaches min_on in the same period decides, whichever of the three rows comes first (R83, R90, R91, R95). As the cursor leaves the
last MOTION phase, or the energize sequence, the motion search closes: NO_MOTION where no dip was confirmed, and TRAVEL_DRIFT where the
travel time lies outside a travel window (R107, R111). -/
def Obligations.PhaseEndsMoveTheCursor : Prop :=
  (∀ (s : State) (ch : ChannelId) (a : Actuation) (ph : PhaseEntry), s.inFullReset = false →
    (s.channel ch).running = some a → s.phaseOf a = some ph →
    (a.seq = .energize → 0 < ph.duration → 2 * ph.duration ≤ a.phaseTime →
      (a.heldFrom = none ∨ a.time < 2 * (s.shapeOf a).fields.minOn) →
      (a.pos + 1 < (s.shapeOf a).energize.length → ∃ u : Diag,
        exec (.phaseEnd ch) s = .next
          ((s.setDiag ch u).setChannel ch
            { s.channel ch with
              running := some
                { a with pos := a.pos + 1, phaseTime := 0, entryCurrent := (s.stage ch).sensed } }) ∧
        (ph.motion = true ∧ (∀ j e, a.pos < j → (s.shapeOf a).energize[j]? = some e → e.motion = false) →
          u = ((s.settleUnit ch).diag ch).close (s.shapeOf a).fields) ∧
        (ph.motion = false ∨ (∃ j e, a.pos < j ∧ (s.shapeOf a).energize[j]? = some e ∧ e.motion = true) →
          u = (s.settleUnit ch).diag ch)) ∧
      ((s.shapeOf a).energize.length ≤ a.pos + 1 → ∃ t : State,
        exec (.phaseEnd ch) s = .next t ∧ s.LeavesEnergize t ch a .selfTimed)) ∧
    (a.seq = .release →
      (0 < ph.duration ∧ 2 * ph.duration ≤ a.phaseTime) ∨
          (ph.kind = .fastDecay ∧ 0 < a.phaseTime ∧ (s.stage ch).sensed = 0) →
      (a.pos + 1 < (s.shapeOf a).release.length →
        exec (.phaseEnd ch) s = .next
          (s.setChannel ch
            { s.channel ch with
              running := some { a with pos := a.pos + 1, phaseTime := 0, entryCurrent := (s.stage ch).sensed } })) ∧
      (∀ cause, a.noted = some cause → (s.shapeOf a).release.length ≤ a.pos + 1 →
        exec (.phaseEnd ch) s = .next (s.endActuation ch cause))) ∧
    (a.seq = .energize → ph.duration = 0 → 2000 * (s.shapeOf a).fields.holdCap ≤ a.phaseTime →
      (a.heldFrom = none ∨ a.time < 2 * (s.shapeOf a).fields.minOn) → ∃ t : State,
        exec (.holdExpired ch) s = .next t ∧ s.LeavesEnergize t ch a .holdExpired) ∧
    (∀ source, a.seq = .energize → a.heldFrom = some source → 2 * (s.shapeOf a).fields.minOn ≤ a.time → ∃ t : State,
      exec (.minOnReached ch) s = .next t ∧
      s.LeavesEnergize t ch a
        (match source with | .pin => .releasedPin | .link => .releasedLink | .disarm => .disarmed) ∧
      (0 < ph.duration → 2 * ph.duration ≤ a.phaseTime → exec (.phaseEnd ch) s = .next t) ∧
      (ph.duration = 0 → 2000 * (s.shapeOf a).fields.holdCap ≤ a.phaseTime → exec (.holdExpired ch) s = .next t))) ∧
  ∀ (u : Diag) (v : Fields),
    (u.search = .off ∨ u.search = .closed → u.close v = u) ∧
    (u.search = .waiting ∨ u.search = .searching → u.close v = { u with search := .closed, motionFinding := .noMotion }) ∧
    (u.search = .inDip ∨ u.search = .found → ∀ dip : Nat, u.dipTime = some dip →
      u.close v = { u with
        search := .closed
        motionFinding := match v.travelWindow with
          | none => .none
          | some w => if dip / 2 < w.lo ∨ w.hi < dip / 2 then .travelDrift else .none })

/-- The end step of an actuation: the stage OFF, what the unit has due taken, the outcome record with its number, cause, findings,
measurements and verdict, the unread flag, the version disengaged with the verdict counted where it is live and freed where it drained,
an unbind-pending binding removed with its count, and the edge-armed flag set from the line where the channel becomes READY (on a line
not yet sampled it is clear: the model's choice, notes/assumptions/7.md); no other channel, no other profile and no other block is
reached (R8, R64, R73, R101, R102, R116, R117, R119, R125 to R127; that a travel time saturates: notes/assumptions/38.md). -/
def Obligations.EndStepRecordsAndDisengages : Prop :=
  ∀ (s t : State) (ch : ChannelId) (a : Actuation) (cause : EndCause) (u : Diag) (count : ProfileId → Nat),
    (s.channel ch).running = some a → t = s.endActuation ch cause → u = (s.settleUnit ch).diag ch →
    (∀ q, count q = if (s.channel ch).unbindPending = true ∧ (s.channel ch).binding = some q then
      (s.profile q).bindingCount - 1 else (s.profile q).bindingCount) →
    (∃ r : OutcomeRecord,
      r.number = (match (s.channel ch).outcome with | none => 0 | some o => (o.number + 1) % 256) ∧
      r.profile = a.profile ∧ r.gen = a.gen ∧ r.origin = a.origin ∧ r.cause = cause ∧
      r.findings = findingsOf (t.diag ch) cause a.earlyHeld ∧ r.verdict = verdictOf cause r.findings ∧
      r.duration = min 65535 (a.time / 2) ∧ r.previousUnread = (s.channel ch).unread ∧
      (r.versionKind = .live ↔ ∃ v, (s.profile a.profile).live = some v ∧ v.gen = a.gen) ∧
      r.motion = u.dipTime.map (fun dip =>
        { travel := min 65535 (dip / 2), peak := u.dipPeak.getD 0, valley := u.valley.getD 0 }) ∧
      r.resistance = u.sample ∧
      -- the findings, in their order
      (r.findings.Sublist [.noMotion, .travelDrift, .hitShort, .resLow, .resHigh, .earlyReleaseHeld] ∧
        ∀ abrupt : Bool, (abrupt = true ↔ cause = .overcurrent ∨ cause = .suspendedSupply ∨ cause = .suspendedTemp ∨
            cause = .safeStop ∨ cause = .softReset) →
          (.noMotion ∈ r.findings ↔ abrupt = false ∧ u.motionFinding = .noMotion) ∧
          (.travelDrift ∈ r.findings ↔ abrupt = false ∧ u.motionFinding = .travelDrift) ∧
          (.hitShort ∈ r.findings ↔ u.hit = .short) ∧ (.resLow ∈ r.findings ↔ u.resistance = .low) ∧
          (.resHigh ∈ r.findings ↔ u.resistance = .high) ∧ (.earlyReleaseHeld ∈ r.findings ↔ a.earlyHeld = true)) ∧
      -- the channel
      t.channel ch =
        { s.channel ch with
          running := none, outcome := some r, unread := true, unbindPending := false
          binding := if (s.channel ch).unbindPending then none else (s.channel ch).binding
          edgeArmed := !(s.chFault ch).latched && (!(s.channel ch).unbindPending && (s.channel ch).binding.isSome) &&
            decide ((s.channel ch).ctlSeen = .deasserted) } ∧
      -- the table: a live version
      (∀ v, (s.profile a.profile).live = some v → v.gen = a.gen → t.free = s.free ∧
        ∀ run : Nat, run = min 15 ((s.profile a.profile).failureRun + 1) →
        t.profile a.profile =
          { s.profile a.profile with
            live := some { v with engaged := v.engaged - 1 }
            bindingCount := count a.profile
            failureRun := match r.verdict with | .clean => 0 | .flawed => run | .aborted => (s.profile a.profile).failureRun
            withheld := match r.verdict with
              | .clean => false
              | .flawed => (s.profile a.profile).withheld ||
                  (decide (v.shape.fields.failureThreshold ≠ 0) && decide (v.shape.fields.failureThreshold ≤ run))
              | .aborted => (s.profile a.profile).withheld })) ∧
    -- the table: a draining version
    (∀ v, (∀ w, (s.profile a.profile).live = some w → w.gen ≠ a.gen) → (s.profile a.profile).draining = some v → v.gen = a.gen →
      (v.engaged = 1 →
        t.profile a.profile = { s.profile a.profile with draining := none, bindingCount := count a.profile } ∧
        t.free = s.free + v.shape.size) ∧
      (1 < v.engaged →
        t.profile a.profile =
          { s.profile a.profile with
            draining := some { v with engaged := v.engaged - 1 }, bindingCount := count a.profile } ∧
        t.free = s.free)) ∧
    (∀ q, q ≠ a.profile → t.profile q = { s.profile q with bindingCount := count q }) ∧
    t.stage ch = { s.stage ch with mode := .off, duty := 0 } ∧ t.diag ch = u ∧
    (∀ c, c ≠ ch → t.channel c = s.channel c ∧ t.stage c = s.stage c ∧ t.diag c = s.diag c) ∧
    t.faults = s.faults ∧ t.monitor = s.monitor ∧ t.modes = s.modes ∧ t.store = s.store ∧ t.loader = s.loader ∧
    t.link = s.link ∧ t.inFullReset = s.inFullReset ∧ t.pending = s.pending

/-- DIP_CONFIRMED and RESISTANCE_SAMPLE, where they are due: the dip's time, peak and valley are those of its run, and the
resistance is 10 D V over 256 C with the fraction dropped, judged by the window; neither reaches the drive (R109, R114, R115). V is the
supply voltage that the unit took with the period (notes/assumptions/24.md). What the unit has due as a channel leaves a phase or ends
is the two in this order (R107). -/
def Obligations.DipAndResistanceAreTaken : Prop :=
  ∀ (s : State) (ch : ChannelId) (a : Actuation), s.inFullReset = false → (s.channel ch).running = some a →
    ((s.diag ch).search = .searching → 0 < (s.diag ch).dipCount →
      (s.shapeOf a).fields.dipPersistence ≤ (s.diag ch).dipCount →
      exec (.dipConfirmed ch) s = .next
        (s.setDiag ch
          { s.diag ch with
            search := .inDip, dipTime := (s.diag ch).candStart, dipPeak := (s.diag ch).peak
            valley := (s.diag ch).candLow })) ∧
    (∀ ph : PhaseEntry, s.phaseOf a = some ph → a.seq = .energize → ph.kind = .holdCurrent → ph.duration = 0 →
      a.phaseTime = 400 → (s.diag ch).sample = none → ∃ x : Nat,
        x = (if (s.stage ch).sensed = 0 then 65535
          else min 65535 (10 * (s.stage ch).duty * (s.diag ch).supply / (256 * (s.stage ch).sensed))) ∧
        exec (.resistanceSample ch) s = .next
          (s.setDiag ch
            { s.diag ch with
              sample := some x
              resistance := match (s.shapeOf a).fields.resistanceWindow with
                | none => .notJudged
                | some w => if x < w.lo then .low else if w.hi < x then .high else .within })) ∧
    (∀ t u : State, exec (.dipConfirmed ch) s = .next t → exec (.resistanceSample ch) t = .next u →
      s.settleUnit ch = u) ∧
    ((s.diag ch).search ≠ .searching ∨ (s.diag ch).dipCount = 0 ∨
        (s.diag ch).dipCount < (s.shapeOf a).fields.dipPersistence → exec (.dipConfirmed ch) s = .next s) ∧
    ((s.diag ch).sample.isSome = true ∨ a.phaseTime ≠ 400 → exec (.resistanceSample ch) s = .next s)

/-- The verdict by the first line that applies: ABORTED for a mode change or a reset, FLAWED for an overcurrent or any finding but
EARLY_RELEASE_HELD, CLEAN otherwise (R118). -/
def Obligations.VerdictByFirstLine : Prop :=
  ∀ (cause : EndCause) (findings : List Finding),
    verdictOf cause findings =
      if cause = .suspendedSupply ∨ cause = .suspendedTemp ∨ cause = .safeStop ∨ cause = .softReset then .aborted
      else if cause = .overcurrent then .flawed
      else if ∃ f ∈ findings, f ≠ .earlyReleaseHeld then .flawed
      else .clean

/-- What a verdict does to the profile it is counted for: a CLEAN one sets the run to 0 and lifts the withholding, a FLAWED one
raises the run to at most 15 and withholds at a nonzero threshold reached, an ABORTED one moves nothing; a verdict on a draining
version is ignored (R124, R125, R126, R127). -/
def Obligations.VerdictsMoveTheFailureRun : Prop :=
  ∀ (s : State) (p : ProfileId) (v : Version), (s.profile p).live = some v → (s.profile p).failureRun ≤ 15 →
    let clean := (s.disengage p v.gen .clean).profile p
    let flawed := (s.disengage p v.gen .flawed).profile p
    let aborted := (s.disengage p v.gen .aborted).profile p
    (clean.failureRun = 0 ∧ clean.withheld = false) ∧
    (aborted.failureRun = (s.profile p).failureRun ∧ aborted.withheld = (s.profile p).withheld) ∧
    flawed.failureRun = (if (s.profile p).failureRun = 15 then 15 else (s.profile p).failureRun + 1) ∧
    (flawed.withheld = true ↔ (s.profile p).withheld = true ∨
      (v.shape.fields.failureThreshold ≠ 0 ∧ v.shape.fields.failureThreshold ≤ flawed.failureRun)) ∧
    (∀ gen verdict, gen ≠ v.gen →
      ((s.disengage p gen verdict).profile p).failureRun = (s.profile p).failureRun ∧
      ((s.disengage p gen verdict).profile p).withheld = (s.profile p).withheld) ∧
    (∀ q gen verdict, q ≠ p → (s.disengage q gen verdict).profile p = s.profile p)

/-! ### Faults and the monitor -/

/-- READ_FAULTS answers the part it names, laid out as 12.8 has it, and changes nothing; SET_FAULT_MASK replaces the six masks and the
stretch setting and leaves a running stretch its time (R148, R149). A set of channels has bit n for CHn (12.4). -/
def Obligations.FaultReadsAndMasks : Prop :=
  (∀ (f : Frame) (s : State),
    (s.admits .readFaults f →
      (f.b2 = 1 → exec (.readFaults f) s = .next (s.replied .readFaults f .ok (faultFlagsData s))) ∧
      (f.b2 = 2 → exec (.readFaults f) s = .next (s.replied .readFaults f .ok (monitorData s))) ∧
      (f.b2 ≠ 1 → f.b2 ≠ 2 → exec (.readFaults f) s = .next (s.replied .readFaults f .badParam {}))) ∧
    (s.admits .setFaultMask f → ∀ stretch : StretchSetting, stretchCode stretch = f.b3.toNat →
      exec (.setFaultMask f) s = .next
        ({ s with
            faults :=
              { s.faults with
                masks :=
                  { overcurrent := f.b2.getLsbD 0, openLoad := f.b2.getLsbD 1, ovt := f.b2.getLsbD 2, uvm := f.b2.getLsbD 3,
                    comm := f.b2.getLsbD 4, withheld := f.b2.getLsbD 5 }
                stretch := stretch } }.replied .setFaultMask f .ok { b4 := f.b2, b5 := f.b3 }))) ∧
  [StretchSetting.zero, .ms250, .ms500, .ms1000].map stretchCode = [0, 1, 2, 3] ∧
  (∀ (set : ChannelId → Bool) (ch : ChannelId), (channelSet set).getLsbD ch.val = set ch) ∧
  ∀ (s : State) (withheld : Bool) (ms : Nat), (withheld = true ↔ ∃ p, (s.profile p).withheld = true) →
    ms = (match s.faults.timer with | none => 0 | some n => (n + 19) / 20) →
    BitVec.ofNat 8 (deviceFlags s.faults) =
      0#5 ++ BitVec.ofBool s.faults.comm ++ BitVec.ofBool s.faults.uvm ++ BitVec.ofBool s.faults.ovt ∧
    faultFlagsData s =
      { b4 := channelSet fun ch => (s.chFault ch).overcurrent, b5 := channelSet fun ch => (s.chFault ch).openLoad
        b6 := 0#3 ++ BitVec.ofBool s.nFaultAsserted ++ BitVec.ofBool withheld ++ BitVec.ofBool s.faults.comm ++
          BitVec.ofBool s.faults.uvm ++ BitVec.ofBool s.faults.ovt
        b7 := 0#2 ++ BitVec.ofBool s.faults.masks.withheld ++ BitVec.ofBool s.faults.masks.comm ++
          BitVec.ofBool s.faults.masks.uvm ++ BitVec.ofBool s.faults.masks.ovt ++ BitVec.ofBool s.faults.masks.openLoad ++
          BitVec.ofBool s.faults.masks.overcurrent
        b8 := BitVec.ofNat 8 (stretchCode s.faults.stretch)
        b9 := BitVec.ofNat 8 (ms / 256), b10 := BitVec.ofNat 8 ms } ∧
    ∀ d : ReplyData, d = monitorData s →
      d.flags = 0 ∧ d.nibble = 0 ∧ d.b10 = 0 ∧
      d.b4 = 0#5 ++ BitVec.ofBool s.monitor.progOk ++ BitVec.ofBool s.monitor.ovt ++ BitVec.ofBool s.monitor.uvm ∧
      d.b5 = BitVec.ofNat 8 (s.monitor.vs / 256) ∧ d.b6 = BitVec.ofNat 8 s.monitor.vs ∧
      d.b7 ++ d.b8 = BitVec.ofInt 16 s.monitor.temp ∧
      d.b9 = channelSet fun ch => decide ((s.chFault ch).pull = .outOfBand)

/-- CLEAR_FAULTS of one channel, driving or not, and of ALL: it judges each latch of each targeted channel, and for ALL the three
device flags. One whose condition is absent is cleared, one whose condition is present stays; a channel left with no latch becomes
READY or UNBOUND, its window 0 and its edge-armed flag set from its line, and a channel with no latch set, as every driving one has, is
not affected (R63, R73, R137, R140, R146). On a line not yet sampled the flag is clear: the model's choice
(notes/assumptions/7.md). -/
def Obligations.ClearFaultsJudgesConditions : Prop :=
  (∀ (f : Frame) (s : State) (ch : ChannelId) (oc ol : Bool), s.admits .clearFaults f → f.b2.toNat = ch.val →
    oc = ((s.chFault ch).overcurrent && (s.chFault ch).overcurrentPresent) →
    ol = ((s.chFault ch).openLoad && decide ((s.chFault ch).pull = .outOfBand)) →
    ∃ t : State, exec (.clearFaults f) s = .next
        (t.replied .clearFaults f .ok
          { b4 := t.overcurrentSet, b5 := t.openLoadSet, b6 := BitVec.ofNat 8 (deviceFlags s.faults) }) ∧
      ((s.chFault ch).latched = false → t = s) ∧
      ((s.chFault ch).latched = true →
        (oc = true ∨ ol = true →
          t = s.setChFault ch { s.chFault ch with overcurrent := oc, openLoad := ol }) ∧
        (oc = false → ol = false →
          t = (s.setChFault ch { s.chFault ch with overcurrent := false, openLoad := false, window := 0 }).setChannel ch
            { s.channel ch with
              edgeArmed := (s.channel ch).running.isNone && (s.channel ch).binding.isSome &&
                decide ((s.channel ch).ctlSeen = .deasserted) }))) ∧
  (∀ (f : Frame) (s : State), s.admits .clearFaults f → f.b2 = 255 → ∃ t : State,
    exec (.clearFaults f) s = .next
      (t.replied .clearFaults f .ok
        { b4 := t.overcurrentSet, b5 := t.openLoadSet, b6 := BitVec.ofNat 8 (deviceFlags t.faults) }) ∧
    (∀ (ch : ChannelId) (oc ol : Bool),
      oc = ((s.chFault ch).overcurrent && (s.chFault ch).overcurrentPresent) →
      ol = ((s.chFault ch).openLoad && decide ((s.chFault ch).pull = .outOfBand)) →
      ((s.chFault ch).latched = false → t.chFault ch = s.chFault ch ∧ t.channel ch = s.channel ch) ∧
      ((s.chFault ch).latched = true →
        (oc = true ∨ ol = true →
          t.chFault ch = { s.chFault ch with overcurrent := oc, openLoad := ol } ∧ t.channel ch = s.channel ch) ∧
        (oc = false → ol = false →
          t.chFault ch = { s.chFault ch with overcurrent := false, openLoad := false, window := 0 } ∧
          t.channel ch =
            { s.channel ch with
              edgeArmed := (s.channel ch).running.isNone && (s.channel ch).binding.isSome &&
                decide ((s.channel ch).ctlSeen = .deasserted) }))) ∧
    t.faults.ovt = (s.faults.ovt && s.monitor.ovt) ∧ t.faults.uvm = (s.faults.uvm && s.monitor.uvm) ∧
    t.faults.comm = false ∧ t.faults.masks = s.faults.masks ∧ t.faults.stretch = s.faults.stretch ∧
    t.faults.timer = s.faults.timer ∧ t.profiles = s.profiles ∧ t.free = s.free ∧ t.stages = s.stages ∧ t.diags = s.diags ∧
    t.monitor = s.monitor ∧ t.modes = s.modes ∧ t.store = s.store ∧ t.loader = s.loader ∧ t.link = s.link ∧
    t.inFullReset = s.inFullReset ∧ t.pending = s.pending)

/-- OPEN_LOAD_LATCH_SET, at the sixth out-of-band period on end of a READY or UNBOUND channel with its check on, sets the latch
and clears the window and the edge-armed flag; OVERCURRENT_TRIP, on a stage that drives in a phase other than a COAST once what is
due has been taken (the model's choice: notes/assumptions/22.md), sets the latch and stops the channel abruptly, and in a COAST or on
a channel that does not drive changes nothing (R63, R99, R136, R139). What is due is said twice: as what settleDue takes, so that the
trip completes under conditions on the state alone, and as what the rows of dueRows leave. -/
def Obligations.LatchesAreSetByTheirTrouble : Prop :=
  (∀ (s : State) (ch : ChannelId), s.inFullReset = false → (s.channel ch).running = none → (s.chFault ch).latched = false →
    (s.channel ch).openLoadCheck = true →
    (6 ≤ (s.chFault ch).window →
      exec (.openLoadLatchSet ch) s = .next
        ((s.setChFault ch { s.chFault ch with openLoad := true, window := 0 }).setChannel ch
          { s.channel ch with edgeArmed := false })) ∧
    ((s.chFault ch).window < 6 → exec (.openLoadLatchSet ch) s = .next s)) ∧
  (∀ (s u : State) (ch : ChannelId), s.inFullReset = false → s.settleDue ch = u →
    (∀ (a : Actuation) (ph : PhaseEntry), (u.channel ch).running = some a → u.phaseOf a = some ph →
      (ph.kind ≠ .coast →
        exec (.overcurrentTrip ch) s = .next
          ((u.setChFault ch
            { u.chFault ch with overcurrent := true, overcurrentPresent := true, tripPeriod := true }).endActuation ch
              .overcurrent)) ∧
      (ph.kind = .coast → exec (.overcurrentTrip ch) s = .next s)) ∧
    ((u.channel ch).running = none → exec (.overcurrentTrip ch) s = .next s)) ∧
  (∀ (s u : State) (ch : ChannelId), s.inFullReset = false → s.Runs u (dueRows ch) →
    (∀ (a : Actuation) (ph : PhaseEntry), (u.channel ch).running = some a → u.phaseOf a = some ph → ph.kind ≠ .coast →
      ∃ t : State, exec (.overcurrentTrip ch) s = .next t ∧
        t = (u.setChFault ch
          { u.chFault ch with overcurrent := true, overcurrentPresent := true, tripPeriod := true }).endActuation ch .overcurrent ∧
        (t.channel ch).running = none ∧ (t.chFault ch).overcurrent = true ∧ (t.channel ch).edgeArmed = false ∧
        (t.stage ch).mode = .off) ∧
    (∀ (a : Actuation) (ph : PhaseEntry), (u.channel ch).running = some a → u.phaseOf a = some ph → ph.kind = .coast →
      exec (.overcurrentTrip ch) s = .next s) ∧
    ((u.channel ch).running = none → exec (.overcurrentTrip ch) s = .next s))

/-- UVM_ONSET and OVT_ONSET: the condition is present and its flag set, an unmasked class starts or restarts a nonzero stretch, and
an ARMED part becomes SUSPENDED with every driving channel stopped, the table reached by their end steps and not otherwise; in any
other mode no mode and no channel changes. A VS below 6.0 V
is below PROG_OK's bound too, whose loss ends the session and abandons a write in flight
(R141, R142, R144, R150, R160, R171, R176). -/
def Obligations.OnsetsSetFlagsAndSuspend : Prop :=
  (∀ (s : State) (vs : Nat), s.inFullReset = false → s.monitor.uvm = false → vs < 600 → ∃ t : State,
    exec (.uvmOnset vs) s = .next t ∧ t.monitor.vs = vs ∧ t.monitor.uvm = true ∧ t.monitor.progOk = false ∧
    t.monitor.temp = s.monitor.temp ∧ t.monitor.ovt = s.monitor.ovt ∧
    t.faults = { s.faults with
      uvm := true
      timer := if s.faults.masks.uvm = true ∨ s.faults.stretch = .zero then s.faults.timer
        else some (match s.faults.stretch with | .zero => 0 | .ms250 => 5000 | .ms500 => 10000 | .ms1000 => 20000) } ∧
    (s.modes.mode = .armed → t.modes = { s.modes with mode := .suspended } ∧ s.AllStopped t .suspendedSupply) ∧
    (s.modes.mode ≠ .armed → t.modes = s.modes ∧ t.channels = s.channels ∧ t.profiles = s.profiles ∧ t.free = s.free ∧
      t.stages = s.stages ∧ t.diags = s.diags) ∧
    t.link = s.link ∧ t.loader = s.loader ∧ t.inFullReset = s.inFullReset ∧ t.pending = s.pending ∧ (s.monitor.progOk = false → t.store = s.store) ∧
    (s.monitor.progOk = true → t.store = { s.store with
      session := .closed, inFlight := none
      lastResult := match s.store.inFlight with
        | none => s.store.lastResult
        | some w => .abandoned w.slot w.copy })) ∧
  (∀ (s : State) (temp : Int), s.inFullReset = false → s.monitor.ovt = false → 165 ≤ temp → ∃ t : State,
    exec (.ovtOnset temp) s = .next t ∧ t.monitor = { s.monitor with temp := min 200 temp, ovt := true } ∧
    t.faults = { s.faults with
      ovt := true
      timer := if s.faults.masks.ovt = true ∨ s.faults.stretch = .zero then s.faults.timer
        else some (match s.faults.stretch with | .zero => 0 | .ms250 => 5000 | .ms500 => 10000 | .ms1000 => 20000) } ∧
    (s.modes.mode = .armed → t.modes = { s.modes with mode := .suspended } ∧ s.AllStopped t .suspendedTemp) ∧
    (s.modes.mode ≠ .armed → t.modes = s.modes ∧ t.channels = s.channels ∧ t.profiles = s.profiles ∧ t.free = s.free ∧
      t.stages = s.stages ∧ t.diags = s.diags) ∧
    t.link = s.link ∧ t.loader = s.loader ∧ t.inFullReset = s.inFullReset ∧ t.pending = s.pending ∧ t.store = s.store)

/-- UVM_CLEARS and OVT_CLEARS: the condition is absent, its flag stays, and a SUSPENDED part with the other condition absent too
returns to ARMED; PROG_OK_TRUE and PROG_OK_FALSE change PROG_OK, and the loss ends the session and abandons a write in flight. A VS
measurement that crosses the bounds of UVM and of PROG_OK at once makes both changes, whichever of the two rows reports it. Nothing
else changes (R141, R142, R144, R161, R171, R176). -/
def Obligations.ClearingsAndProgOk : Prop :=
  (∀ (s : State) (vs : Nat), s.inFullReset = false → s.monitor.uvm = true → 650 < vs →
    ∀ (progOk : Bool) (modes : ModeControl) (lost : Store),
    progOk = (if s.monitor.progOk then decide (1050 ≤ vs) else decide (1100 ≤ vs)) →
    modes = { s.modes with
      mode := if s.modes.mode = .suspended ∧ s.monitor.ovt = false then .armed else s.modes.mode } →
    lost = { s.store with
      session := .closed, inFlight := none
      lastResult := match s.store.inFlight with
        | none => s.store.lastResult
        | some w => .abandoned w.slot w.copy } →
    exec (.uvmClears vs) s = .next
      { s with
        monitor := { s.monitor with vs := min 4095 vs, uvm := false, progOk := progOk }
        modes := modes
        store := if s.monitor.progOk = true ∧ vs < 1050 then lost else s.store } ∧
    (s.monitor.progOk = false → 1100 ≤ vs → exec (.progOkTrue vs) s = exec (.uvmClears vs) s) ∧
    (s.monitor.progOk = true → vs < 1050 → exec (.progOkFalse vs) s = exec (.uvmClears vs) s)) ∧
  (∀ (s : State) (temp : Int), s.inFullReset = false → s.monitor.ovt = true → temp < 145 →
    exec (.ovtClears temp) s = .next
      { s with
        monitor := { s.monitor with temp := max (-40) temp, ovt := false }
        modes := { s.modes with
          mode := if s.modes.mode = .suspended ∧ s.monitor.uvm = false then .armed else s.modes.mode } }) ∧
  (∀ (s : State) (vs : Nat), s.inFullReset = false → s.monitor.progOk = false → s.monitor.uvm = false → 1100 ≤ vs →
    exec (.progOkTrue vs) s = .next { s with monitor := { s.monitor with vs := min 4095 vs, progOk := true } }) ∧
  (∀ (s : State) (vs : Nat), s.inFullReset = false → s.monitor.progOk = true → vs < 1050 →
    (s.monitor.uvm = false → 600 ≤ vs) → (s.monitor.uvm = true → vs ≤ 650) →
    exec (.progOkFalse vs) s = .next
      { s with
        monitor := { s.monitor with vs := vs, progOk := false }
        store := { s.store with
          session := .closed, inFlight := none
          lastResult := match s.store.inFlight with
            | none => s.store.lastResult
            | some w => .abandoned w.slot w.copy } }) ∧
  (∀ (s : State) (vs : Nat), s.inFullReset = false → s.monitor.progOk = true → s.monitor.uvm = false → vs < 600 →
    exec (.progOkFalse vs) s = exec (.uvmOnset vs) s)

/-! ### Part modes -/

/-- ARM: its refusals in order with their reasons, and the entry to ARMED from STANDBY; LEAVE_SAFE: LINE_ACTIVE while nSAFE was last
seen asserted, and otherwise STANDBY (R157, R158). -/
def Obligations.ArmAndLeaveSafe : Prop :=
  (∀ (f : Frame) (s : State), s.admits .arm f →
    (s.modes.mode = .suspended ∨ s.modes.mode = .safe →
      exec (.arm f) s = .next (s.replied .arm f .modeRefused { b4 := 1 })) ∧
    (s.modes.mode = .armed → exec (.arm f) s = .next (s.replied .arm f .ok {})) ∧
    (s.modes.mode = .standby →
      (s.monitor.uvm = true ∨ s.monitor.ovt = true →
        exec (.arm f) s = .next (s.replied .arm f .modeRefused { b4 := 2 })) ∧
      (s.monitor.uvm = false → s.monitor.ovt = false →
        (s.store.session = .isOpen → exec (.arm f) s = .next (s.replied .arm f .modeRefused { b4 := 3 })) ∧
        (s.store.session ≠ .isOpen →
          exec (.arm f) s = .next
            ({ s with modes := { s.modes with mode := .armed } }.replied .arm f .ok {}))))) ∧
  (∀ (f : Frame) (s : State), s.admits .leaveSafe f →
    (s.modes.nsafeSeen = .asserted → exec (.leaveSafe f) s = .next (s.replied .leaveSafe f .lineActive {})) ∧
    (s.modes.nsafeSeen = .deasserted →
      exec (.leaveSafe f) s = .next ({ s with modes := { s.modes with mode := .standby } }.replied .leaveSafe f .ok {})))

/-- DISARM: of no effect in STANDBY, STANDBY alone from SUSPENDED; from ARMED, STANDBY with a release requested of every channel
that is ENERGIZING or HOLDING: afterwards each such channel holds a release, is RELEASING or has ended, a release that was held
stands, and no other channel is reached. However many there are, each before min_on holds a release with source DISARM, and each from
min_on on is in its release sequence or has ended with DISARMED; the table is reached only where one ends (R95, R97, R159). They are
taken from CH0 to CH7, which is the model's choice (notes/assumptions/16.md). -/
def Obligations.DisarmReleasesDrivingChannels : Prop :=
  ∀ (f : Frame) (s : State), s.admits .disarm f →
    (s.modes.mode = .standby → exec (.disarm f) s = .next (s.replied .disarm f .ok {})) ∧
    (s.modes.mode = .suspended →
      exec (.disarm f) s = .next ({ s with modes := { s.modes with mode := .standby } }.replied .disarm f .ok {})) ∧
    (s.modes.mode = .armed → ∃ t : State,
      exec (.disarm f) s = .next (t.replied .disarm f .ok { b4 := channelSet fun ch => (s.channel ch).energized }) ∧
      t.modes = { s.modes with mode := .standby } ∧
      -- one channel after another
      (∃ u : Nat → State, u 0 = s ∧ t = { u 8 with modes := { s.modes with mode := .standby } } ∧
        ∀ ch : ChannelId, (u ch.val).DisarmsChannel (u (ch.val + 1)) ch) ∧
      -- each channel, however many others there are
      (∀ ch, (s.channel ch).energized = false →
        t.channel ch = s.channel ch ∧ t.stage ch = s.stage ch ∧ t.diag ch = s.diag ch) ∧
      (TableAccounted s → ∀ ch a, (s.channel ch).running = some a → a.seq = .energize → a.heldFrom = none →
        (a.time < 2 * (s.shapeOf a).fields.minOn →
          t.channel ch =
            { s.channel ch with running := some { a with heldFrom := some .disarm, earlyHeld := true } } ∧
          t.stage ch = s.stage ch ∧ t.diag ch = s.diag ch) ∧
        (2 * (s.shapeOf a).fields.minOn ≤ a.time →
          t.diag ch = ((s.settleUnit ch).diag ch).close (s.shapeOf a).fields ∧
          ((s.shapeOf a).release ≠ [] → t.stage ch = s.stage ch ∧
            t.channel ch =
              { s.channel ch with
                running := some
                  { a with
                    seq := .release, pos := 0, phaseTime := 0, heldFrom := none, noted := some .disarmed
                    entryCurrent := (s.stage ch).sensed } }) ∧
          ((s.shapeOf a).release = [] → (t.channel ch).running = none ∧ (t.stage ch).mode = .off ∧
            ∃ r, (t.channel ch).outcome = some r ∧ r.cause = .disarmed))) ∧
      -- the table
      (∀ p, (t.profile p).draft = (s.profile p).draft ∧ (t.profile p).highWater = (s.profile p).highWater) ∧
      ((∀ ch a, (s.channel ch).running = some a → a.seq = .energize → a.heldFrom = none →
          2 * (s.shapeOf a).fields.minOn ≤ a.time → (s.shapeOf a).release ≠ []) →
        t.profiles = s.profiles ∧ t.free = s.free) ∧
      (∀ ch a, (s.channel ch).running = some a → a.heldFrom.isSome = true →
        t.channel ch = s.channel ch ∧ t.stage ch = s.stage ch ∧ t.diag ch = s.diag ch) ∧
      (∀ ch b, (t.channel ch).running = some b → b.seq = .energize → b.heldFrom.isSome = true) ∧
      (∀ ch a, (s.channel ch).running = some a → a.seq = .energize → a.heldFrom = none →
        (∀ c, c ≠ ch → (s.channel c).energized = false) →
        (a.time < 2 * (s.shapeOf a).fields.minOn →
          t = { s.holding ch a .disarm with modes := { s.modes with mode := .standby } }) ∧
        (2 * (s.shapeOf a).fields.minOn ≤ a.time → ∃ u : State,
          t = { u with modes := { s.modes with mode := .standby } } ∧ s.LeavesEnergize u ch a .disarmed)) ∧
      t.faults = s.faults ∧ t.monitor = s.monitor ∧ t.store = s.store ∧ t.loader = s.loader ∧ t.link = s.link ∧
      t.inFullReset = s.inFullReset ∧ t.pending = s.pending)

/-- SAFE_STOP and a sample of nSAFE seen asserted enter SAFE from STANDBY, ARMED and SUSPENDED: every driving channel is stopped with
SAFE_STOP and ends ABORTED, the others are not touched, the profile table and the pool are reached by the end steps and not otherwise,
and from STANDBY the store session ends, a write in flight continuing; in SAFE nothing but the level last seen changes, and during LOADING the sample is remembered. NSAFE_DEASSERTED sets the level last seen
(R155, R156, R171). -/
def Obligations.SafeEntryStopsEveryChannel : Prop :=
  (∀ (f : Frame) (s : State), s.admits .safeStop f →
    (s.modes.mode = .safe → exec (.safeStop f) s = .next (s.replied .safeStop f .ok {})) ∧
    (s.modes.mode ≠ .safe →
      exec (.safeStop f) s = .next (s.enterSafe.replied .safeStop f .ok { b4 := channelSet fun ch => s.driving ch }))) ∧
  (∀ s : State, s.inFullReset = false → ∀ u : State, u = { s with modes := { s.modes with nsafeSeen := .asserted } } →
    (s.modes.mode = .loading →
      exec .nsafeAsserted s = .next { u with modes := { u.modes with nsafeRemembered := true } }) ∧
    (s.modes.mode = .safe → exec .nsafeAsserted s = .next u) ∧
    (s.modes.mode ≠ .loading → s.modes.mode ≠ .safe → exec .nsafeAsserted s = .next u.enterSafe)) ∧
  (∀ s : State, s.inFullReset = false →
    exec .nsafeDeasserted s = .next { s with modes := { s.modes with nsafeSeen := .deasserted } }) ∧
  (∀ s : State, s.enterSafe.modes = { s.modes with mode := .safe } ∧
    s.AllStopped s.enterSafe .safeStop ∧
    s.enterSafe.faults = s.faults ∧ s.enterSafe.monitor = s.monitor ∧ s.enterSafe.link = s.link ∧
    s.enterSafe.loader = s.loader ∧ s.enterSafe.inFullReset = s.inFullReset ∧ s.enterSafe.pending = s.pending ∧
    s.enterSafe.store =
      { s.store with
        session := if s.modes.mode = .standby ∧ s.store.session = .isOpen then
          (if s.store.inFlight.isSome then .closing else .closed) else s.store.session })

/-- SOFT_RESET: no actuation, draft, session or write in flight is left; latches and flags stand only where their condition is present,
and none is set that was not set before (the model's choice of R153's two readings: notes/assumptions/17.md); and what the part was
taught is kept: live versions, high-water marks, failure runs and withheld flags, bindings but the unbind-pending ones of driving
channels, with the counts of those that remain, settings, and outcome records, a stopped channel writing a new one. Each channel READY
afterwards has its edge-armed flag set from its line (clear on one not yet sampled: the model's choice, notes/assumptions/7.md). Where
the pool and the table are accounted for, no version drains and the pool holds the live versions' entries and no others (R24, R43, R81,
R99, R104, R123, R134, R153, R163, R171, R176, R193). -/
def Obligations.SoftResetKeepsWhatWasTaught : Prop :=
  ∀ (f : Frame) (s : State), s.admits .softReset f → ∃ t : State, exec (.softReset f) s = .next t ∧
    t.modes = { s.modes with mode := if s.modes.nsafeSeen = .asserted then .safe else .standby } ∧
    (∀ ch, (ChannelsConsistent s → (t.channel ch).unbindPending = false) ∧
      (∀ drops armed : Bool, drops = ((s.channel ch).running.isSome && (s.channel ch).unbindPending) →
        armed = (!(t.chFault ch).latched && (!drops && (s.channel ch).binding.isSome) &&
          decide ((s.channel ch).ctlSeen = .deasserted)) →
        ((s.channel ch).running = none → t.channel ch = { s.channel ch with edgeArmed := armed }) ∧
        ((s.channel ch).running.isSome = true → ∃ r : OutcomeRecord, r.cause = .softReset ∧ r.verdict = .aborted ∧
          t.channel ch =
            { s.channel ch with
              running := none, unbindPending := false, binding := if drops then none else (s.channel ch).binding
              edgeArmed := armed, outcome := some r, unread := true })) ∧
      t.stage ch = { s.stage ch with mode := .off, target := 0, duty := 0 } ∧
      t.chFault ch =
        { s.chFault ch with
          overcurrent := (s.chFault ch).overcurrent && (s.chFault ch).overcurrentPresent
          openLoad := (s.chFault ch).openLoad && decide ((s.chFault ch).pull = .outOfBand)
          window := 0 } ∧
      ((s.channel ch).running = none → t.diag ch = s.diag ch)) ∧
    (∀ p, (t.profile p).draft = none ∧ (t.profile p).highWater = (s.profile p).highWater ∧
      (t.profile p).bindingCount = (s.profile p).bindingCount -
        (allChannels.filter fun ch => (s.channel ch).running.isSome && (s.channel ch).unbindPending &&
          decide ((s.channel ch).binding = some p)).length ∧
      ((s.profile p).live = none → (t.profile p).live = none ∧
        ((s.profile p).draft.isSome = true → (t.profile p).failureRun = 0 ∧ (t.profile p).withheld = false) ∧
        ((s.profile p).draft = none → (t.profile p).failureRun = (s.profile p).failureRun ∧
          (t.profile p).withheld = (s.profile p).withheld)) ∧
      (∀ v, (s.profile p).live = some v →
        (t.profile p).live = some { v with engaged := v.engaged - s.engagedTo p v.gen } ∧
        (t.profile p).failureRun = (s.profile p).failureRun ∧ (t.profile p).withheld = (s.profile p).withheld)) ∧
    t.faults.ovt = (s.faults.ovt && s.monitor.ovt) ∧ t.faults.uvm = (s.faults.uvm && s.monitor.uvm) ∧ t.faults.comm = false ∧
    t.faults.masks = s.faults.masks ∧ t.faults.stretch = s.faults.stretch ∧ t.faults.timer = s.faults.timer ∧
    t.monitor = s.monitor ∧ t.loader = s.loader ∧ t.inFullReset = s.inFullReset ∧ t.pending = s.pending ∧
    t.store = { s.store with
      session := .closed, inFlight := none
      lastResult := match s.store.inFlight with
        | none => s.store.lastResult
        | some w => .abandoned w.slot w.copy } ∧
    t.link = { s.link with
      received := [], frameOpen := false, shifted := 96
      prepared := { result := .ok, code := commandCode .softReset, tag := some (frameTag f), data := {} } } ∧
    (PoolAccounted s → TableAccounted s →
      (∀ p, (t.profile p).draining = none) ∧ t.free + t.heldLive = 160)

/-! ### The store -/

/-- STORE_OPEN and STORE_CLOSE: their refusals in order, and the session opened or closed (R169, R170). -/
def Obligations.StoreSessionsOpenAndClose : Prop :=
  (∀ (f : Frame) (s : State), s.admits .storeOpen f →
    (s.store.locked = true → exec (.storeOpen f) s = .next (s.replied .storeOpen f .locked {})) ∧
    (s.store.locked = false → s.monitor.progOk = false →
      exec (.storeOpen f) s = .next (s.replied .storeOpen f .lowSupply {})) ∧
    (s.store.locked = false → s.monitor.progOk = true → s.store.inFlight.isSome = true →
      exec (.storeOpen f) s = .next (s.replied .storeOpen f .storeBusy {})) ∧
    (s.store.locked = false → s.monitor.progOk = true → s.store.inFlight = none →
      exec (.storeOpen f) s = .next
        ({ s with store := { s.store with session := .isOpen } }.replied .storeOpen f .ok { b4 := 1, b5 := 0 }))) ∧
  (∀ (f : Frame) (s : State), s.admits .storeClose f →
    (s.store.inFlight.isSome = true → exec (.storeClose f) s = .next (s.replied .storeClose f .storeBusy {})) ∧
    (s.store.inFlight = none → s.store.session = .closed →
      exec (.storeClose f) s = .next (s.replied .storeClose f .storeClosed {})) ∧
    (s.store.inFlight = none → s.store.session ≠ .closed →
      exec (.storeClose f) s = .next
        ({ s with store := { s.store with session := .closed } }.replied .storeClose f .ok {})))

/-- The three store writes: STORE_CLOSED without an OPEN session, STORE_BUSY during a write, SLOT_EXHAUSTED without a blank copy, and
otherwise the snapshot's write begun into the lowest blank copy, which is spoiled from then on (R21, R68, R172 to R175). -/
def Obligations.StoreWritesBeginIntoLowestBlankCopy : Prop :=
  ∀ (f : Frame) (s : State) (c : Command) (slot : Slot) (snapshot : CopyContent) (gen : Nat), s.admits c f →
    (c = .storeWriteProfile ∧ (∃ p v, f.b2.toNat = p.val + 1 ∧ (s.profile p).live = some v ∧ slot.val = p.val ∧ gen = v.gen ∧
        snapshot = .profile p v.gen v.shape)) ∨
      (c = .storeWriteMap ∧ slot = 32 ∧ gen = 0 ∧
        snapshot = .map
          (s.channels.map fun r =>
            { binding := if r.unbindPending then none else r.binding, trigger := r.trigger, openLoadCheck := r.openLoadCheck })
          (f.b2.getLsbD 0)) ∨
      (c = .storeLock ∧ slot = 33 ∧ gen = 0 ∧ snapshot = .lockMark) →
    (s.store.session ≠ .isOpen → exec (linkInstr c f) s = .next (s.replied c f .storeClosed {})) ∧
    (s.store.session = .isOpen → s.store.inFlight.isSome = true →
      exec (linkInstr c f) s = .next (s.replied c f .storeBusy {})) ∧
    (s.store.session = .isOpen → s.store.inFlight = none →
      ((∀ x ∈ s.store.record.get slot, x ≠ .blank) →
        exec (linkInstr c f) s = .next (s.replied c f .slotExhausted {})) ∧
      (∀ i : Nat, (s.store.record.get slot)[i]? = some .blank →
        (∀ j : Nat, j < i → (s.store.record.get slot)[j]? ≠ some .blank) →
        exec (linkInstr c f) s = .next
          ({ s with
              store := { s.store with
                array := s.store.array.set slot.val ((s.store.array.get slot).set i .partlyWritten) slot.isLt
                record := s.store.record.set slot.val ((s.store.record.get slot).set i .spoiled) slot.isLt
                inFlight := some { slot := slot, copy := i + 1, snapshot := snapshot, remaining := 60 } } }.replied c f .accepted
            { b4 := BitVec.ofNat 8 (i + 1)
              b5 := BitVec.ofNat 8 (gen / 256), b6 := BitVec.ofNat 8 gen })))

/-- STORE_WRITE_PROFILE of a profile with no live version answers STORE_CLOSED where no session is OPEN, STORE_BUSY during a write, and
NO_PROFILE otherwise; STORE_WRITE_COMPLETE,
when the 3 ms have passed, leaves the copy valid with its check word, a lock write locking the store and closing the session; STORE_QUERY
answers, laid out as 12.8 has it, and changes nothing (R21, R172, R174, R175, R178). -/
def Obligations.StoreWriteCompletesAndQueryAnswers : Prop :=
  (∀ (f : Frame) (s : State) (p : ProfileId), s.admits .storeWriteProfile f → f.b2.toNat = p.val + 1 →
    (s.profile p).live = none →
    (s.store.session ≠ .isOpen → exec (.storeWriteProfile f) s = .next (s.replied .storeWriteProfile f .storeClosed {})) ∧
    (s.store.session = .isOpen → s.store.inFlight.isSome = true →
      exec (.storeWriteProfile f) s = .next (s.replied .storeWriteProfile f .storeBusy {})) ∧
    (s.store.session = .isOpen → s.store.inFlight = none →
      exec (.storeWriteProfile f) s = .next (s.replied .storeWriteProfile f .noProfile {}))) ∧
  (∀ (s : State) (w : Write), s.inFullReset = false → s.store.inFlight = some w →
    (0 < w.remaining → exec .storeWriteComplete s = .next s) ∧
    (w.remaining = 0 →
      exec .storeWriteComplete s = .next
        { s with
          store := { s.store with
            array := s.store.array.set w.slot.val
              ((s.store.array.get w.slot).set (w.copy - 1) (.written w.snapshot (checkWord w.snapshot))) w.slot.isLt
            record := s.store.record.set w.slot.val ((s.store.record.get w.slot).set (w.copy - 1) .valid) w.slot.isLt
            inFlight := none
            lastResult := .done w.slot w.copy
            locked := s.store.locked || decide (w.snapshot = .lockMark)
            session := if w.snapshot = .lockMark ∨ s.store.session = .closing then .closed else s.store.session } })) ∧
  (∀ (f : Frame) (s : State), s.admits .storeQuery f →
    (∀ slot : Slot, (f.b2.toNat = slot.val + 1 ∧ slot.val < 32) ∨ (f.b2 = 64 ∧ slot = 32) ∨ (f.b2 = 65 ∧ slot = 33) →
      exec (.storeQuery f) s = .next (s.replied .storeQuery f .ok (queryData s.store slot))) ∧
    (f.b2.toNat = 0 ∨ (33 ≤ f.b2.toNat ∧ f.b2 ≠ 64 ∧ f.b2 ≠ 65) →
      exec (.storeQuery f) s = .next (s.replied .storeQuery f .badTarget {}))) ∧
  ∀ (st : Store) (slot : Slot) (copy : Nat → BitVec 2) (code : Slot → Byte) (gen : Nat),
    (∀ i, copy i = match (st.record.get slot)[i]? with
      | some .blank => 0 | some .valid => 1 | some .spoiled => 2 | none => 3) →
    (∀ x, code x = if x.val < 32 then BitVec.ofNat 8 (x.val + 1) else if x = 32 then 64 else 65) →
    gen = (match st.newestValid slot with
      | some (.profile _ g _) => g | some (.map _ _) => 0 | some .lockMark => 0 | none => 0) →
    queryData st slot =
      { b4 := 0#2 ++ copy 2 ++ copy 1 ++ copy 0
        b5 := BitVec.ofNat 8 (gen / 256), b6 := BitVec.ofNat 8 gen
        b7 := 0#3 ++ BitVec.ofBool st.locked ++
          (match st.session with | .closed => 0#2 | .isOpen => 1#2 | .closing => 2#2) ++
          BitVec.ofNat 2 ((st.record.get slot).filter fun c => decide (c = .blank)).length
        b8 := match st.inFlight with | none => 0 | some w => code w.slot
        b9 := 0#2 ++
          (match st.lastResult with | .none => 0#2 | .done _ _ => 1#2 | .abandoned _ _ => 2#2) ++
          (match st.lastResult with | .none => 0#2 | .done _ n => BitVec.ofNat 2 n | .abandoned _ n => BitVec.ofNat 2 n) ++
          (match st.inFlight with | none => 0#2 | some w => BitVec.ofNat 2 w.copy)
        b10 := match st.lastResult with | .none => 0 | .done x _ => code x | .abandoned x _ => code x }

/-- The power-up load: a profile slot fills its id from the highest-numbered valid copy where the pool has its entries, and leaves it
where there is none or it has not; the lock slot ends the load with the locked state and the mode of R162; a map slot with no
valid copy changes no channel, and one with a valid copy gives each channel its settings and the bindings that loaded, with the counts
of their profiles and the edge-armed flags from the lines (on a line not yet sampled, clear: the model's choice,
notes/assumptions/7.md). A copy is valid where it is written in full, its check word is the CRC-16 of its content, and the content
is of its slot's kind; the order of the content's bytes is the model's choice (notes/assumptions/14.md)
(R22, R162, R166, R167, R179, R180, R181). -/
def Obligations.LoaderWorksThroughTheSlots : Prop :=
  (∀ (s : State) (p : ProfileId) (st : Store), s.inFullReset = false → s.modes.mode = .loading → s.loader.next = p.val →
    st = { s.store with
      record := s.store.record.set p.val ((s.store.array.get (profileSlot p)).map (cellState (profileSlot p))) (by omega) } →
    (s.store.newestValid (profileSlot p) = none →
      exec .loadProfileSlot s = .next { s with store := st, loader := { s.loader with next := p.val + 1 } }) ∧
    (∀ q gen sh, s.store.newestValid (profileSlot p) = some (.profile q gen sh) → (s.profile p).live = none →
      (s.free < sh.size →
        exec .loadProfileSlot s = .next { s with store := st, loader := { s.loader with next := p.val + 1 } }) ∧
      (sh.size ≤ s.free →
        exec .loadProfileSlot s = .next
          { s.setProfile p
              { s.profile p with
                live := some { gen := gen, shape := sh, engaged := 0 }, highWater := gen, failureRun := 0, withheld := false } with
            store := st, free := s.free - sh.size
            loader := { s.loader with next := p.val + 1, loaded := s.loader.loaded.set p.val true p.isLt } }))) ∧
  (∀ s : State, s.inFullReset = false → s.modes.mode = .loading → s.loader.next = 32 → ∃ t : State,
    exec .loadMapSlot s = .next t ∧ t.loader.next = 33 ∧ t.loader.loaded = s.loader.loaded ∧
    t.store = { s.store with
      record := s.store.record.set 32 ((s.store.array.get 32).map (cellState 32)) (by omega) } ∧
    t.modes = s.modes ∧ t.stages = s.stages ∧ t.diags = s.diags ∧ t.monitor = s.monitor ∧ t.link = s.link ∧ t.free = s.free ∧
    t.inFullReset = s.inFullReset ∧ t.pending = s.pending ∧
    (s.store.newestValid 32 = none →
      t.channels = s.channels ∧ t.profiles = s.profiles ∧ t.faults = s.faults ∧ t.loader.request = s.loader.request) ∧
    (∀ entries arm, s.store.newestValid 32 = some (.map entries arm) →
      (∀ (ch : ChannelId) (takes : ProfileId → Bool),
        (∀ p, takes p = (decide ((entries.get ch).binding = some p) && s.loader.loaded.get p)) →
        t.channel ch =
          { s.channel ch with
            trigger := (entries.get ch).trigger, openLoadCheck := (entries.get ch).openLoadCheck
            binding := match (entries.get ch).binding with
              | none => (s.channel ch).binding
              | some p => if s.loader.loaded.get p then some p else (s.channel ch).binding
            edgeArmed := if ∃ p, takes p = true then
                (s.channel ch).running.isNone && !(s.chFault ch).latched && decide ((s.channel ch).ctlSeen = .deasserted)
              else (s.channel ch).edgeArmed } ∧
        t.chFault ch =
          if (entries.get ch).openLoadCheck then s.chFault ch else { s.chFault ch with pull := .notRunning, window := 0 }) ∧
      t.faults = { s.faults with channels := t.faults.channels } ∧
      ((∀ ch, (s.channel ch).binding = none) → ∀ p,
        t.profile p = { s.profile p with
          bindingCount := (s.profile p).bindingCount +
            if s.loader.loaded.get p then
              (allChannels.filter fun ch => decide ((entries.get ch).binding = some p)).length else 0 }) ∧
      (t.loader.request = .armAtStart ↔
        arm = true ∧ ∀ ch p, (entries.get ch).binding = some p → s.loader.loaded.get p = true))) ∧
  (∀ s : State, s.inFullReset = false → s.modes.mode = .loading → s.loader.next = 33 →
    exec .loadLockSlot s = .next
      { s with
        store := { s.store with
          record := s.store.record.set 33 ((s.store.array.get 33).map (cellState 33)) (by omega)
          locked := ((s.store.array.get 33).filterMap (validContent 33)) ≠ [] }
        loader := { s.loader with next := 34 }
        modes := { s.modes with
          mode := if s.modes.nsafeRemembered then .safe
            else if s.loader.request = .stay ∨ s.monitor.uvm = true ∨ s.monitor.ovt = true then .standby else .armed } }) ∧
  -- the highest-numbered valid copy
  (∀ (st : Store) (slot : Slot) (content : CopyContent), st.newestValid slot = some content ↔
    ∃ (i : Nat) (cell : Cell), (st.array.get slot)[i]? = some cell ∧ validContent slot cell = some content ∧
      ∀ j cell', i < j → (st.array.get slot)[j]? = some cell' → validContent slot cell' = none) ∧
  -- what a copy is
  (∀ (slot : Slot) (cell : Cell) (content : CopyContent), validContent slot cell = some content ↔
    cell = .written content (crc16 (contentBytes content)) ∧
      match content with
      | .profile id _ sh => slot.val = id.val ∧ 1 ≤ sh.energize.length ∧ sh.energize.length ≤ 6 ∧ sh.release.length ≤ 2
      | .map _ _ => slot = 32
      | .lockMark => slot = 33) ∧
  (∀ (slot : Slot) (cell : Cell), cellState slot cell =
    if cell = .blank then .blank else if (validContent slot cell).isSome then .valid else .spoiled) ∧
  crc16 [] = 0xFFFF ∧
  ∀ (bs : List Byte) (b : Byte),
    crc16 (bs ++ [b]) =
      Nat.repeat (fun r : BitVec 16 => if r.msb then (r <<< 1) ^^^ 0x1021 else r <<< 1) 8 (crc16 bs ^^^ (b ++ 0#8))

/-! ### What every step keeps -/

/-- The pool's 160 entries stay accounted for: free, or held by a live, a draft or a draining version (R30, R42). -/
def Obligations.EveryStepKeepsThePoolAccounted : Prop :=
  ∀ s t : State, PoolAccounted s → step s = .next t → PoolAccounted t

/-- Channels drive only while the part mode lets them: any in ARMED, those released or RELEASING in STANDBY. While nSAFE was last
seen asserted the part is in SAFE, or in LOADING with that remembered. It is ARMED only with neither condition present and SUSPENDED
only with one, and a present condition has its flag set (R97, R144, R155 to R158, R160 to R163). -/
def Obligations.EveryStepKeepsTheModeRules : Prop :=
  (∀ s t : State, ModeGovernsDrive s → step s = .next t → ModeGovernsDrive t) ∧
    (∀ s t : State, NsafeHolds s → step s = .next t → NsafeHolds t) ∧
    ∀ s t : State, ConditionsGovern s → step s = .next t → ConditionsGovern t

/-- Binding counts and engagement counts stay exact, and every running actuation stays on a version that its channel's bound profile
holds (R4, R6, R7, R8, R17). It is kept beside the rule of R97 that no channel drives in LOADING, where the map copy binds channels:
see EveryStepKeepsTheModeRules. -/
def Obligations.EveryStepKeepsTheTableCounted : Prop :=
  ∀ s t : State, ModeGovernsDrive s → TableAccounted s → step s = .next t → TableAccounted t

/-- A profile stays withheld exactly when its nonzero threshold is reached by its run, which is at most 15 (R124). -/
def Obligations.EveryStepKeepsWithheldExact : Prop :=
  ∀ s t : State, WithheldExact s → step s = .next t → WithheldExact t

/-- Every version stays in its ranges: phases, fields, counts and generations (R4, R27, R28, R29). -/
def Obligations.EveryStepKeepsShapesInRange : Prop :=
  ∀ s t : State, ShapesInRange s → step s = .next t → ShapesInRange t

/-- A latched channel does not drive, a channel that does not drive has its stage OFF, an edge-armed channel is READY and an
unbind-pending one drives; the pull check runs, and the open-load window counts, only where the manual lets them (R62, R63, R68, R73,
R84, R135, R138, R139). -/
def Obligations.EveryStepKeepsChannelsConsistent : Prop :=
  (∀ s t : State, ChannelsConsistent s → step s = .next t → ChannelsConsistent t) ∧
    ∀ s t : State, PullGoverned s → step s = .next t → PullGoverned t

/-- Sessions, writes, the lock and the copy-state record stay consistent with each other and with the mode (R166, R168, R171, R174,
R175, R179). -/
def Obligations.EveryStepKeepsTheStoreConsistent : Prop :=
  (∀ s t : State, StoreGoverned s → step s = .next t → StoreGoverned t) ∧
    ∀ s t : State, CopiesTracked s → step s = .next t → CopiesTracked t

/-- No copy is written more than once and none while the store is locked: a step changes a copy only from blank to partly written or,
as the write in flight completes, from partly written to written, and none of a locked store (R166, R175). -/
def Obligations.CopiesAreWrittenOnce : Prop :=
  ∀ s t : State, CopiesTracked s → StoreGoverned s → step s = .next t → ∀ (slot : Slot) (i : Nat),
    (t.store.cells slot)[i]? = (s.store.cells slot)[i]? ∨
      (s.store.locked = false ∧ (s.store.cells slot)[i]? = some .blank ∧ (t.store.cells slot)[i]? = some .partlyWritten) ∨
      (s.store.locked = false ∧ (s.store.cells slot)[i]? = some .partlyWritten ∧
        ∃ w, s.store.inFlight = some w ∧ w.slot = slot ∧ w.copy = i + 1 ∧
          (t.store.cells slot)[i]? = some (.written w.snapshot (checkWord w.snapshot)))

/-- All of these hold right after reset, as State.reset has it (notes/assumptions/1.md, 8.md, 12.md and 13.md are the model's choices
in it: that nSAFE was last seen deasserted there is 8.md). -/
def Obligations.ResetMeetsEveryKeptProperty : Prop :=
  PoolAccounted State.reset ∧ ModeGovernsDrive State.reset ∧ NsafeHolds State.reset ∧ ConditionsGovern State.reset ∧
    TableAccounted State.reset ∧ WithheldExact State.reset ∧ ShapesInRange State.reset ∧ ChannelsConsistent State.reset ∧
    PullGoverned State.reset ∧ StoreGoverned State.reset ∧ CopiesTracked State.reset

end Statements
end

