-- ==== Sys2Proof/Laws/State.lean ====
section
/-! SUPPORT. One lemma for each field of the state that an update leaves as it was, and what each update's own accessor reads
after it. -/

namespace Sys2Proof.Machine

variable (s : State)

/-! ### What each update leaves -/

@[simp] theorem State.setProfile_pending (p : ProfileId) (e : Profile) : (s.setProfile p e).pending = s.pending := rfl
@[simp] theorem State.setProfile_inFullReset (p : ProfileId) (e : Profile) : (s.setProfile p e).inFullReset = s.inFullReset := rfl
@[simp] theorem State.setProfile_free (p : ProfileId) (e : Profile) : (s.setProfile p e).free = s.free := rfl
@[simp] theorem State.setProfile_channels (p : ProfileId) (e : Profile) : (s.setProfile p e).channels = s.channels := rfl
@[simp] theorem State.setProfile_stages (p : ProfileId) (e : Profile) : (s.setProfile p e).stages = s.stages := rfl
@[simp] theorem State.setProfile_diags (p : ProfileId) (e : Profile) : (s.setProfile p e).diags = s.diags := rfl
@[simp] theorem State.setProfile_faults (p : ProfileId) (e : Profile) : (s.setProfile p e).faults = s.faults := rfl
@[simp] theorem State.setProfile_monitor (p : ProfileId) (e : Profile) : (s.setProfile p e).monitor = s.monitor := rfl
@[simp] theorem State.setProfile_modes (p : ProfileId) (e : Profile) : (s.setProfile p e).modes = s.modes := rfl
@[simp] theorem State.setProfile_store (p : ProfileId) (e : Profile) : (s.setProfile p e).store = s.store := rfl
@[simp] theorem State.setProfile_loader (p : ProfileId) (e : Profile) : (s.setProfile p e).loader = s.loader := rfl
@[simp] theorem State.setProfile_link (p : ProfileId) (e : Profile) : (s.setProfile p e).link = s.link := rfl
@[simp] theorem State.setProfile_channel (p : ProfileId) (e : Profile) (c : ChannelId) : (s.setProfile p e).channel c = s.channel c := rfl
@[simp] theorem State.setProfile_stage (p : ProfileId) (e : Profile) (c : ChannelId) : (s.setProfile p e).stage c = s.stage c := rfl
@[simp] theorem State.setProfile_diag (p : ProfileId) (e : Profile) (c : ChannelId) : (s.setProfile p e).diag c = s.diag c := rfl
@[simp] theorem State.setProfile_chFault (p : ProfileId) (e : Profile) (c : ChannelId) : (s.setProfile p e).chFault c = s.chFault c := rfl

@[simp] theorem State.setChannel_pending (ch : ChannelId) (r : Channel) : (s.setChannel ch r).pending = s.pending := rfl
@[simp] theorem State.setChannel_inFullReset (ch : ChannelId) (r : Channel) : (s.setChannel ch r).inFullReset = s.inFullReset := rfl
@[simp] theorem State.setChannel_profiles (ch : ChannelId) (r : Channel) : (s.setChannel ch r).profiles = s.profiles := rfl
@[simp] theorem State.setChannel_free (ch : ChannelId) (r : Channel) : (s.setChannel ch r).free = s.free := rfl
@[simp] theorem State.setChannel_stages (ch : ChannelId) (r : Channel) : (s.setChannel ch r).stages = s.stages := rfl
@[simp] theorem State.setChannel_diags (ch : ChannelId) (r : Channel) : (s.setChannel ch r).diags = s.diags := rfl
@[simp] theorem State.setChannel_faults (ch : ChannelId) (r : Channel) : (s.setChannel ch r).faults = s.faults := rfl
@[simp] theorem State.setChannel_monitor (ch : ChannelId) (r : Channel) : (s.setChannel ch r).monitor = s.monitor := rfl
@[simp] theorem State.setChannel_modes (ch : ChannelId) (r : Channel) : (s.setChannel ch r).modes = s.modes := rfl
@[simp] theorem State.setChannel_store (ch : ChannelId) (r : Channel) : (s.setChannel ch r).store = s.store := rfl
@[simp] theorem State.setChannel_loader (ch : ChannelId) (r : Channel) : (s.setChannel ch r).loader = s.loader := rfl
@[simp] theorem State.setChannel_link (ch : ChannelId) (r : Channel) : (s.setChannel ch r).link = s.link := rfl
@[simp] theorem State.setChannel_profile (ch : ChannelId) (r : Channel) (q : ProfileId) : (s.setChannel ch r).profile q = s.profile q := rfl
@[simp] theorem State.setChannel_stage (ch : ChannelId) (r : Channel) (c : ChannelId) : (s.setChannel ch r).stage c = s.stage c := rfl
@[simp] theorem State.setChannel_diag (ch : ChannelId) (r : Channel) (c : ChannelId) : (s.setChannel ch r).diag c = s.diag c := rfl
@[simp] theorem State.setChannel_chFault (ch : ChannelId) (r : Channel) (c : ChannelId) : (s.setChannel ch r).chFault c = s.chFault c := rfl

@[simp] theorem State.setStage_pending (ch : ChannelId) (st : Stage) : (s.setStage ch st).pending = s.pending := rfl
@[simp] theorem State.setStage_inFullReset (ch : ChannelId) (st : Stage) : (s.setStage ch st).inFullReset = s.inFullReset := rfl
@[simp] theorem State.setStage_profiles (ch : ChannelId) (st : Stage) : (s.setStage ch st).profiles = s.profiles := rfl
@[simp] theorem State.setStage_free (ch : ChannelId) (st : Stage) : (s.setStage ch st).free = s.free := rfl
@[simp] theorem State.setStage_channels (ch : ChannelId) (st : Stage) : (s.setStage ch st).channels = s.channels := rfl
@[simp] theorem State.setStage_diags (ch : ChannelId) (st : Stage) : (s.setStage ch st).diags = s.diags := rfl
@[simp] theorem State.setStage_faults (ch : ChannelId) (st : Stage) : (s.setStage ch st).faults = s.faults := rfl
@[simp] theorem State.setStage_monitor (ch : ChannelId) (st : Stage) : (s.setStage ch st).monitor = s.monitor := rfl
@[simp] theorem State.setStage_modes (ch : ChannelId) (st : Stage) : (s.setStage ch st).modes = s.modes := rfl
@[simp] theorem State.setStage_store (ch : ChannelId) (st : Stage) : (s.setStage ch st).store = s.store := rfl
@[simp] theorem State.setStage_loader (ch : ChannelId) (st : Stage) : (s.setStage ch st).loader = s.loader := rfl
@[simp] theorem State.setStage_link (ch : ChannelId) (st : Stage) : (s.setStage ch st).link = s.link := rfl
@[simp] theorem State.setStage_profile (ch : ChannelId) (st : Stage) (q : ProfileId) : (s.setStage ch st).profile q = s.profile q := rfl
@[simp] theorem State.setStage_channel (ch : ChannelId) (st : Stage) (c : ChannelId) : (s.setStage ch st).channel c = s.channel c := rfl
@[simp] theorem State.setStage_diag (ch : ChannelId) (st : Stage) (c : ChannelId) : (s.setStage ch st).diag c = s.diag c := rfl
@[simp] theorem State.setStage_chFault (ch : ChannelId) (st : Stage) (c : ChannelId) : (s.setStage ch st).chFault c = s.chFault c := rfl

@[simp] theorem State.setDiag_pending (ch : ChannelId) (u : Diag) : (s.setDiag ch u).pending = s.pending := rfl
@[simp] theorem State.setDiag_inFullReset (ch : ChannelId) (u : Diag) : (s.setDiag ch u).inFullReset = s.inFullReset := rfl
@[simp] theorem State.setDiag_profiles (ch : ChannelId) (u : Diag) : (s.setDiag ch u).profiles = s.profiles := rfl
@[simp] theorem State.setDiag_free (ch : ChannelId) (u : Diag) : (s.setDiag ch u).free = s.free := rfl
@[simp] theorem State.setDiag_channels (ch : ChannelId) (u : Diag) : (s.setDiag ch u).channels = s.channels := rfl
@[simp] theorem State.setDiag_stages (ch : ChannelId) (u : Diag) : (s.setDiag ch u).stages = s.stages := rfl
@[simp] theorem State.setDiag_faults (ch : ChannelId) (u : Diag) : (s.setDiag ch u).faults = s.faults := rfl
@[simp] theorem State.setDiag_monitor (ch : ChannelId) (u : Diag) : (s.setDiag ch u).monitor = s.monitor := rfl
@[simp] theorem State.setDiag_modes (ch : ChannelId) (u : Diag) : (s.setDiag ch u).modes = s.modes := rfl
@[simp] theorem State.setDiag_store (ch : ChannelId) (u : Diag) : (s.setDiag ch u).store = s.store := rfl
@[simp] theorem State.setDiag_loader (ch : ChannelId) (u : Diag) : (s.setDiag ch u).loader = s.loader := rfl
@[simp] theorem State.setDiag_link (ch : ChannelId) (u : Diag) : (s.setDiag ch u).link = s.link := rfl
@[simp] theorem State.setDiag_profile (ch : ChannelId) (u : Diag) (q : ProfileId) : (s.setDiag ch u).profile q = s.profile q := rfl
@[simp] theorem State.setDiag_channel (ch : ChannelId) (u : Diag) (c : ChannelId) : (s.setDiag ch u).channel c = s.channel c := rfl
@[simp] theorem State.setDiag_stage (ch : ChannelId) (u : Diag) (c : ChannelId) : (s.setDiag ch u).stage c = s.stage c := rfl
@[simp] theorem State.setDiag_chFault (ch : ChannelId) (u : Diag) (c : ChannelId) : (s.setDiag ch u).chFault c = s.chFault c := rfl

@[simp] theorem State.setChFault_pending (ch : ChannelId) (f : ChannelFault) : (s.setChFault ch f).pending = s.pending := rfl
@[simp] theorem State.setChFault_inFullReset (ch : ChannelId) (f : ChannelFault) : (s.setChFault ch f).inFullReset = s.inFullReset := rfl
@[simp] theorem State.setChFault_profiles (ch : ChannelId) (f : ChannelFault) : (s.setChFault ch f).profiles = s.profiles := rfl
@[simp] theorem State.setChFault_free (ch : ChannelId) (f : ChannelFault) : (s.setChFault ch f).free = s.free := rfl
@[simp] theorem State.setChFault_channels (ch : ChannelId) (f : ChannelFault) : (s.setChFault ch f).channels = s.channels := rfl
@[simp] theorem State.setChFault_stages (ch : ChannelId) (f : ChannelFault) : (s.setChFault ch f).stages = s.stages := rfl
@[simp] theorem State.setChFault_diags (ch : ChannelId) (f : ChannelFault) : (s.setChFault ch f).diags = s.diags := rfl
@[simp] theorem State.setChFault_monitor (ch : ChannelId) (f : ChannelFault) : (s.setChFault ch f).monitor = s.monitor := rfl
@[simp] theorem State.setChFault_modes (ch : ChannelId) (f : ChannelFault) : (s.setChFault ch f).modes = s.modes := rfl
@[simp] theorem State.setChFault_store (ch : ChannelId) (f : ChannelFault) : (s.setChFault ch f).store = s.store := rfl
@[simp] theorem State.setChFault_loader (ch : ChannelId) (f : ChannelFault) : (s.setChFault ch f).loader = s.loader := rfl
@[simp] theorem State.setChFault_link (ch : ChannelId) (f : ChannelFault) : (s.setChFault ch f).link = s.link := rfl
@[simp] theorem State.setChFault_profile (ch : ChannelId) (f : ChannelFault) (q : ProfileId) : (s.setChFault ch f).profile q = s.profile q := rfl
@[simp] theorem State.setChFault_channel (ch : ChannelId) (f : ChannelFault) (c : ChannelId) : (s.setChFault ch f).channel c = s.channel c := rfl
@[simp] theorem State.setChFault_stage (ch : ChannelId) (f : ChannelFault) (c : ChannelId) : (s.setChFault ch f).stage c = s.stage c := rfl
@[simp] theorem State.setChFault_diag (ch : ChannelId) (f : ChannelFault) (c : ChannelId) : (s.setChFault ch f).diag c = s.diag c := rfl

@[simp] theorem State.allocate_pending (n : Nat) : (s.allocate n).pending = s.pending := rfl
@[simp] theorem State.allocate_inFullReset (n : Nat) : (s.allocate n).inFullReset = s.inFullReset := rfl
@[simp] theorem State.allocate_profiles (n : Nat) : (s.allocate n).profiles = s.profiles := rfl
@[simp] theorem State.allocate_channels (n : Nat) : (s.allocate n).channels = s.channels := rfl
@[simp] theorem State.allocate_stages (n : Nat) : (s.allocate n).stages = s.stages := rfl
@[simp] theorem State.allocate_diags (n : Nat) : (s.allocate n).diags = s.diags := rfl
@[simp] theorem State.allocate_faults (n : Nat) : (s.allocate n).faults = s.faults := rfl
@[simp] theorem State.allocate_monitor (n : Nat) : (s.allocate n).monitor = s.monitor := rfl
@[simp] theorem State.allocate_modes (n : Nat) : (s.allocate n).modes = s.modes := rfl
@[simp] theorem State.allocate_store (n : Nat) : (s.allocate n).store = s.store := rfl
@[simp] theorem State.allocate_loader (n : Nat) : (s.allocate n).loader = s.loader := rfl
@[simp] theorem State.allocate_link (n : Nat) : (s.allocate n).link = s.link := rfl
@[simp] theorem State.allocate_profile (n : Nat) (q : ProfileId) : (s.allocate n).profile q = s.profile q := rfl
@[simp] theorem State.allocate_channel (n : Nat) (c : ChannelId) : (s.allocate n).channel c = s.channel c := rfl
@[simp] theorem State.allocate_stage (n : Nat) (c : ChannelId) : (s.allocate n).stage c = s.stage c := rfl
@[simp] theorem State.allocate_diag (n : Nat) (c : ChannelId) : (s.allocate n).diag c = s.diag c := rfl
@[simp] theorem State.allocate_chFault (n : Nat) (c : ChannelId) : (s.allocate n).chFault c = s.chFault c := rfl

@[simp] theorem State.freeEntries_pending (n : Nat) : (s.freeEntries n).pending = s.pending := rfl
@[simp] theorem State.freeEntries_inFullReset (n : Nat) : (s.freeEntries n).inFullReset = s.inFullReset := rfl
@[simp] theorem State.freeEntries_profiles (n : Nat) : (s.freeEntries n).profiles = s.profiles := rfl
@[simp] theorem State.freeEntries_channels (n : Nat) : (s.freeEntries n).channels = s.channels := rfl
@[simp] theorem State.freeEntries_stages (n : Nat) : (s.freeEntries n).stages = s.stages := rfl
@[simp] theorem State.freeEntries_diags (n : Nat) : (s.freeEntries n).diags = s.diags := rfl
@[simp] theorem State.freeEntries_faults (n : Nat) : (s.freeEntries n).faults = s.faults := rfl
@[simp] theorem State.freeEntries_monitor (n : Nat) : (s.freeEntries n).monitor = s.monitor := rfl
@[simp] theorem State.freeEntries_modes (n : Nat) : (s.freeEntries n).modes = s.modes := rfl
@[simp] theorem State.freeEntries_store (n : Nat) : (s.freeEntries n).store = s.store := rfl
@[simp] theorem State.freeEntries_loader (n : Nat) : (s.freeEntries n).loader = s.loader := rfl
@[simp] theorem State.freeEntries_link (n : Nat) : (s.freeEntries n).link = s.link := rfl
@[simp] theorem State.freeEntries_profile (n : Nat) (q : ProfileId) : (s.freeEntries n).profile q = s.profile q := rfl
@[simp] theorem State.freeEntries_channel (n : Nat) (c : ChannelId) : (s.freeEntries n).channel c = s.channel c := rfl
@[simp] theorem State.freeEntries_stage (n : Nat) (c : ChannelId) : (s.freeEntries n).stage c = s.stage c := rfl
@[simp] theorem State.freeEntries_diag (n : Nat) (c : ChannelId) : (s.freeEntries n).diag c = s.diag c := rfl
@[simp] theorem State.freeEntries_chFault (n : Nat) (c : ChannelId) : (s.freeEntries n).chFault c = s.chFault c := rfl

@[simp] theorem State.setDraft_pending (p : ProfileId) (d : Shape) : (s.setDraft p d).pending = s.pending := rfl
@[simp] theorem State.setDraft_inFullReset (p : ProfileId) (d : Shape) : (s.setDraft p d).inFullReset = s.inFullReset := rfl
@[simp] theorem State.setDraft_free (p : ProfileId) (d : Shape) : (s.setDraft p d).free = s.free := rfl
@[simp] theorem State.setDraft_channels (p : ProfileId) (d : Shape) : (s.setDraft p d).channels = s.channels := rfl
@[simp] theorem State.setDraft_stages (p : ProfileId) (d : Shape) : (s.setDraft p d).stages = s.stages := rfl
@[simp] theorem State.setDraft_diags (p : ProfileId) (d : Shape) : (s.setDraft p d).diags = s.diags := rfl
@[simp] theorem State.setDraft_faults (p : ProfileId) (d : Shape) : (s.setDraft p d).faults = s.faults := rfl
@[simp] theorem State.setDraft_monitor (p : ProfileId) (d : Shape) : (s.setDraft p d).monitor = s.monitor := rfl
@[simp] theorem State.setDraft_modes (p : ProfileId) (d : Shape) : (s.setDraft p d).modes = s.modes := rfl
@[simp] theorem State.setDraft_store (p : ProfileId) (d : Shape) : (s.setDraft p d).store = s.store := rfl
@[simp] theorem State.setDraft_loader (p : ProfileId) (d : Shape) : (s.setDraft p d).loader = s.loader := rfl
@[simp] theorem State.setDraft_link (p : ProfileId) (d : Shape) : (s.setDraft p d).link = s.link := rfl
@[simp] theorem State.setDraft_channel (p : ProfileId) (d : Shape) (c : ChannelId) : (s.setDraft p d).channel c = s.channel c := rfl
@[simp] theorem State.setDraft_stage (p : ProfileId) (d : Shape) (c : ChannelId) : (s.setDraft p d).stage c = s.stage c := rfl
@[simp] theorem State.setDraft_diag (p : ProfileId) (d : Shape) (c : ChannelId) : (s.setDraft p d).diag c = s.diag c := rfl
@[simp] theorem State.setDraft_chFault (p : ProfileId) (d : Shape) (c : ChannelId) : (s.setDraft p d).chFault c = s.chFault c := rfl

@[simp] theorem State.countBinding_pending (p : ProfileId) : (s.countBinding p).pending = s.pending := rfl
@[simp] theorem State.countBinding_inFullReset (p : ProfileId) : (s.countBinding p).inFullReset = s.inFullReset := rfl
@[simp] theorem State.countBinding_free (p : ProfileId) : (s.countBinding p).free = s.free := rfl
@[simp] theorem State.countBinding_channels (p : ProfileId) : (s.countBinding p).channels = s.channels := rfl
@[simp] theorem State.countBinding_stages (p : ProfileId) : (s.countBinding p).stages = s.stages := rfl
@[simp] theorem State.countBinding_diags (p : ProfileId) : (s.countBinding p).diags = s.diags := rfl
@[simp] theorem State.countBinding_faults (p : ProfileId) : (s.countBinding p).faults = s.faults := rfl
@[simp] theorem State.countBinding_monitor (p : ProfileId) : (s.countBinding p).monitor = s.monitor := rfl
@[simp] theorem State.countBinding_modes (p : ProfileId) : (s.countBinding p).modes = s.modes := rfl
@[simp] theorem State.countBinding_store (p : ProfileId) : (s.countBinding p).store = s.store := rfl
@[simp] theorem State.countBinding_loader (p : ProfileId) : (s.countBinding p).loader = s.loader := rfl
@[simp] theorem State.countBinding_link (p : ProfileId) : (s.countBinding p).link = s.link := rfl
@[simp] theorem State.countBinding_channel (p : ProfileId) (c : ChannelId) : (s.countBinding p).channel c = s.channel c := rfl
@[simp] theorem State.countBinding_stage (p : ProfileId) (c : ChannelId) : (s.countBinding p).stage c = s.stage c := rfl
@[simp] theorem State.countBinding_diag (p : ProfileId) (c : ChannelId) : (s.countBinding p).diag c = s.diag c := rfl
@[simp] theorem State.countBinding_chFault (p : ProfileId) (c : ChannelId) : (s.countBinding p).chFault c = s.chFault c := rfl

@[simp] theorem State.uncountBinding_pending (p : ProfileId) : (s.uncountBinding p).pending = s.pending := rfl
@[simp] theorem State.uncountBinding_inFullReset (p : ProfileId) : (s.uncountBinding p).inFullReset = s.inFullReset := rfl
@[simp] theorem State.uncountBinding_free (p : ProfileId) : (s.uncountBinding p).free = s.free := rfl
@[simp] theorem State.uncountBinding_channels (p : ProfileId) : (s.uncountBinding p).channels = s.channels := rfl
@[simp] theorem State.uncountBinding_stages (p : ProfileId) : (s.uncountBinding p).stages = s.stages := rfl
@[simp] theorem State.uncountBinding_diags (p : ProfileId) : (s.uncountBinding p).diags = s.diags := rfl
@[simp] theorem State.uncountBinding_faults (p : ProfileId) : (s.uncountBinding p).faults = s.faults := rfl
@[simp] theorem State.uncountBinding_monitor (p : ProfileId) : (s.uncountBinding p).monitor = s.monitor := rfl
@[simp] theorem State.uncountBinding_modes (p : ProfileId) : (s.uncountBinding p).modes = s.modes := rfl
@[simp] theorem State.uncountBinding_store (p : ProfileId) : (s.uncountBinding p).store = s.store := rfl
@[simp] theorem State.uncountBinding_loader (p : ProfileId) : (s.uncountBinding p).loader = s.loader := rfl
@[simp] theorem State.uncountBinding_link (p : ProfileId) : (s.uncountBinding p).link = s.link := rfl
@[simp] theorem State.uncountBinding_channel (p : ProfileId) (c : ChannelId) : (s.uncountBinding p).channel c = s.channel c := rfl
@[simp] theorem State.uncountBinding_stage (p : ProfileId) (c : ChannelId) : (s.uncountBinding p).stage c = s.stage c := rfl
@[simp] theorem State.uncountBinding_diag (p : ProfileId) (c : ChannelId) : (s.uncountBinding p).diag c = s.diag c := rfl
@[simp] theorem State.uncountBinding_chFault (p : ProfileId) (c : ChannelId) : (s.uncountBinding p).chFault c = s.chFault c := rfl

@[simp] theorem State.setRunning_pending (ch : ChannelId) (a : Actuation) : (s.setRunning ch a).pending = s.pending := rfl
@[simp] theorem State.setRunning_inFullReset (ch : ChannelId) (a : Actuation) : (s.setRunning ch a).inFullReset = s.inFullReset := rfl
@[simp] theorem State.setRunning_profiles (ch : ChannelId) (a : Actuation) : (s.setRunning ch a).profiles = s.profiles := rfl
@[simp] theorem State.setRunning_free (ch : ChannelId) (a : Actuation) : (s.setRunning ch a).free = s.free := rfl
@[simp] theorem State.setRunning_stages (ch : ChannelId) (a : Actuation) : (s.setRunning ch a).stages = s.stages := rfl
@[simp] theorem State.setRunning_diags (ch : ChannelId) (a : Actuation) : (s.setRunning ch a).diags = s.diags := rfl
@[simp] theorem State.setRunning_faults (ch : ChannelId) (a : Actuation) : (s.setRunning ch a).faults = s.faults := rfl
@[simp] theorem State.setRunning_monitor (ch : ChannelId) (a : Actuation) : (s.setRunning ch a).monitor = s.monitor := rfl
@[simp] theorem State.setRunning_modes (ch : ChannelId) (a : Actuation) : (s.setRunning ch a).modes = s.modes := rfl
@[simp] theorem State.setRunning_store (ch : ChannelId) (a : Actuation) : (s.setRunning ch a).store = s.store := rfl
@[simp] theorem State.setRunning_loader (ch : ChannelId) (a : Actuation) : (s.setRunning ch a).loader = s.loader := rfl
@[simp] theorem State.setRunning_link (ch : ChannelId) (a : Actuation) : (s.setRunning ch a).link = s.link := rfl
@[simp] theorem State.setRunning_profile (ch : ChannelId) (a : Actuation) (q : ProfileId) : (s.setRunning ch a).profile q = s.profile q := rfl
@[simp] theorem State.setRunning_stage (ch : ChannelId) (a : Actuation) (c : ChannelId) : (s.setRunning ch a).stage c = s.stage c := rfl
@[simp] theorem State.setRunning_diag (ch : ChannelId) (a : Actuation) (c : ChannelId) : (s.setRunning ch a).diag c = s.diag c := rfl
@[simp] theorem State.setRunning_chFault (ch : ChannelId) (a : Actuation) (c : ChannelId) : (s.setRunning ch a).chFault c = s.chFault c := rfl

@[simp] theorem State.moveTo_pending (ch : ChannelId) (a : Actuation) (sq : Seq) (pos : Nat) : (s.moveTo ch a sq pos).pending = s.pending := rfl
@[simp] theorem State.moveTo_inFullReset (ch : ChannelId) (a : Actuation) (sq : Seq) (pos : Nat) : (s.moveTo ch a sq pos).inFullReset = s.inFullReset := rfl
@[simp] theorem State.moveTo_profiles (ch : ChannelId) (a : Actuation) (sq : Seq) (pos : Nat) : (s.moveTo ch a sq pos).profiles = s.profiles := rfl
@[simp] theorem State.moveTo_free (ch : ChannelId) (a : Actuation) (sq : Seq) (pos : Nat) : (s.moveTo ch a sq pos).free = s.free := rfl
@[simp] theorem State.moveTo_stages (ch : ChannelId) (a : Actuation) (sq : Seq) (pos : Nat) : (s.moveTo ch a sq pos).stages = s.stages := rfl
@[simp] theorem State.moveTo_diags (ch : ChannelId) (a : Actuation) (sq : Seq) (pos : Nat) : (s.moveTo ch a sq pos).diags = s.diags := rfl
@[simp] theorem State.moveTo_faults (ch : ChannelId) (a : Actuation) (sq : Seq) (pos : Nat) : (s.moveTo ch a sq pos).faults = s.faults := rfl
@[simp] theorem State.moveTo_monitor (ch : ChannelId) (a : Actuation) (sq : Seq) (pos : Nat) : (s.moveTo ch a sq pos).monitor = s.monitor := rfl
@[simp] theorem State.moveTo_modes (ch : ChannelId) (a : Actuation) (sq : Seq) (pos : Nat) : (s.moveTo ch a sq pos).modes = s.modes := rfl
@[simp] theorem State.moveTo_store (ch : ChannelId) (a : Actuation) (sq : Seq) (pos : Nat) : (s.moveTo ch a sq pos).store = s.store := rfl
@[simp] theorem State.moveTo_loader (ch : ChannelId) (a : Actuation) (sq : Seq) (pos : Nat) : (s.moveTo ch a sq pos).loader = s.loader := rfl
@[simp] theorem State.moveTo_link (ch : ChannelId) (a : Actuation) (sq : Seq) (pos : Nat) : (s.moveTo ch a sq pos).link = s.link := rfl
@[simp] theorem State.moveTo_profile (ch : ChannelId) (a : Actuation) (sq : Seq) (pos : Nat) (q : ProfileId) : (s.moveTo ch a sq pos).profile q = s.profile q := rfl
@[simp] theorem State.moveTo_stage (ch : ChannelId) (a : Actuation) (sq : Seq) (pos : Nat) (c : ChannelId) : (s.moveTo ch a sq pos).stage c = s.stage c := rfl
@[simp] theorem State.moveTo_diag (ch : ChannelId) (a : Actuation) (sq : Seq) (pos : Nat) (c : ChannelId) : (s.moveTo ch a sq pos).diag c = s.diag c := rfl
@[simp] theorem State.moveTo_chFault (ch : ChannelId) (a : Actuation) (sq : Seq) (pos : Nat) (c : ChannelId) : (s.moveTo ch a sq pos).chFault c = s.chFault c := rfl

@[simp] theorem State.seeLine_pending (ch : ChannelId) (l : CtlSeen) : (s.seeLine ch l).pending = s.pending := rfl
@[simp] theorem State.seeLine_inFullReset (ch : ChannelId) (l : CtlSeen) : (s.seeLine ch l).inFullReset = s.inFullReset := rfl
@[simp] theorem State.seeLine_profiles (ch : ChannelId) (l : CtlSeen) : (s.seeLine ch l).profiles = s.profiles := rfl
@[simp] theorem State.seeLine_free (ch : ChannelId) (l : CtlSeen) : (s.seeLine ch l).free = s.free := rfl
@[simp] theorem State.seeLine_stages (ch : ChannelId) (l : CtlSeen) : (s.seeLine ch l).stages = s.stages := rfl
@[simp] theorem State.seeLine_diags (ch : ChannelId) (l : CtlSeen) : (s.seeLine ch l).diags = s.diags := rfl
@[simp] theorem State.seeLine_faults (ch : ChannelId) (l : CtlSeen) : (s.seeLine ch l).faults = s.faults := rfl
@[simp] theorem State.seeLine_monitor (ch : ChannelId) (l : CtlSeen) : (s.seeLine ch l).monitor = s.monitor := rfl
@[simp] theorem State.seeLine_modes (ch : ChannelId) (l : CtlSeen) : (s.seeLine ch l).modes = s.modes := rfl
@[simp] theorem State.seeLine_store (ch : ChannelId) (l : CtlSeen) : (s.seeLine ch l).store = s.store := rfl
@[simp] theorem State.seeLine_loader (ch : ChannelId) (l : CtlSeen) : (s.seeLine ch l).loader = s.loader := rfl
@[simp] theorem State.seeLine_link (ch : ChannelId) (l : CtlSeen) : (s.seeLine ch l).link = s.link := rfl
@[simp] theorem State.seeLine_profile (ch : ChannelId) (l : CtlSeen) (q : ProfileId) : (s.seeLine ch l).profile q = s.profile q := rfl
@[simp] theorem State.seeLine_stage (ch : ChannelId) (l : CtlSeen) (c : ChannelId) : (s.seeLine ch l).stage c = s.stage c := rfl
@[simp] theorem State.seeLine_diag (ch : ChannelId) (l : CtlSeen) (c : ChannelId) : (s.seeLine ch l).diag c = s.diag c := rfl
@[simp] theorem State.seeLine_chFault (ch : ChannelId) (l : CtlSeen) (c : ChannelId) : (s.seeLine ch l).chFault c = s.chFault c := rfl

@[simp] theorem State.setEdge_pending (ch : ChannelId) (b : Bool) : (s.setEdge ch b).pending = s.pending := rfl
@[simp] theorem State.setEdge_inFullReset (ch : ChannelId) (b : Bool) : (s.setEdge ch b).inFullReset = s.inFullReset := rfl
@[simp] theorem State.setEdge_profiles (ch : ChannelId) (b : Bool) : (s.setEdge ch b).profiles = s.profiles := rfl
@[simp] theorem State.setEdge_free (ch : ChannelId) (b : Bool) : (s.setEdge ch b).free = s.free := rfl
@[simp] theorem State.setEdge_stages (ch : ChannelId) (b : Bool) : (s.setEdge ch b).stages = s.stages := rfl
@[simp] theorem State.setEdge_diags (ch : ChannelId) (b : Bool) : (s.setEdge ch b).diags = s.diags := rfl
@[simp] theorem State.setEdge_faults (ch : ChannelId) (b : Bool) : (s.setEdge ch b).faults = s.faults := rfl
@[simp] theorem State.setEdge_monitor (ch : ChannelId) (b : Bool) : (s.setEdge ch b).monitor = s.monitor := rfl
@[simp] theorem State.setEdge_modes (ch : ChannelId) (b : Bool) : (s.setEdge ch b).modes = s.modes := rfl
@[simp] theorem State.setEdge_store (ch : ChannelId) (b : Bool) : (s.setEdge ch b).store = s.store := rfl
@[simp] theorem State.setEdge_loader (ch : ChannelId) (b : Bool) : (s.setEdge ch b).loader = s.loader := rfl
@[simp] theorem State.setEdge_link (ch : ChannelId) (b : Bool) : (s.setEdge ch b).link = s.link := rfl
@[simp] theorem State.setEdge_profile (ch : ChannelId) (b : Bool) (q : ProfileId) : (s.setEdge ch b).profile q = s.profile q := rfl
@[simp] theorem State.setEdge_stage (ch : ChannelId) (b : Bool) (c : ChannelId) : (s.setEdge ch b).stage c = s.stage c := rfl
@[simp] theorem State.setEdge_diag (ch : ChannelId) (b : Bool) (c : ChannelId) : (s.setEdge ch b).diag c = s.diag c := rfl
@[simp] theorem State.setEdge_chFault (ch : ChannelId) (b : Bool) (c : ChannelId) : (s.setEdge ch b).chFault c = s.chFault c := rfl

@[simp] theorem State.stageOff_pending (ch : ChannelId) : (s.stageOff ch).pending = s.pending := rfl
@[simp] theorem State.stageOff_inFullReset (ch : ChannelId) : (s.stageOff ch).inFullReset = s.inFullReset := rfl
@[simp] theorem State.stageOff_profiles (ch : ChannelId) : (s.stageOff ch).profiles = s.profiles := rfl
@[simp] theorem State.stageOff_free (ch : ChannelId) : (s.stageOff ch).free = s.free := rfl
@[simp] theorem State.stageOff_channels (ch : ChannelId) : (s.stageOff ch).channels = s.channels := rfl
@[simp] theorem State.stageOff_diags (ch : ChannelId) : (s.stageOff ch).diags = s.diags := rfl
@[simp] theorem State.stageOff_faults (ch : ChannelId) : (s.stageOff ch).faults = s.faults := rfl
@[simp] theorem State.stageOff_monitor (ch : ChannelId) : (s.stageOff ch).monitor = s.monitor := rfl
@[simp] theorem State.stageOff_modes (ch : ChannelId) : (s.stageOff ch).modes = s.modes := rfl
@[simp] theorem State.stageOff_store (ch : ChannelId) : (s.stageOff ch).store = s.store := rfl
@[simp] theorem State.stageOff_loader (ch : ChannelId) : (s.stageOff ch).loader = s.loader := rfl
@[simp] theorem State.stageOff_link (ch : ChannelId) : (s.stageOff ch).link = s.link := rfl
@[simp] theorem State.stageOff_profile (ch : ChannelId) (q : ProfileId) : (s.stageOff ch).profile q = s.profile q := rfl
@[simp] theorem State.stageOff_channel (ch : ChannelId) (c : ChannelId) : (s.stageOff ch).channel c = s.channel c := rfl
@[simp] theorem State.stageOff_diag (ch : ChannelId) (c : ChannelId) : (s.stageOff ch).diag c = s.diag c := rfl
@[simp] theorem State.stageOff_chFault (ch : ChannelId) (c : ChannelId) : (s.stageOff ch).chFault c = s.chFault c := rfl

@[simp] theorem State.closeSearch_pending (ch : ChannelId) (a : Actuation) : (s.closeSearch ch a).pending = s.pending := rfl
@[simp] theorem State.closeSearch_inFullReset (ch : ChannelId) (a : Actuation) : (s.closeSearch ch a).inFullReset = s.inFullReset := rfl
@[simp] theorem State.closeSearch_profiles (ch : ChannelId) (a : Actuation) : (s.closeSearch ch a).profiles = s.profiles := rfl
@[simp] theorem State.closeSearch_free (ch : ChannelId) (a : Actuation) : (s.closeSearch ch a).free = s.free := rfl
@[simp] theorem State.closeSearch_channels (ch : ChannelId) (a : Actuation) : (s.closeSearch ch a).channels = s.channels := rfl
@[simp] theorem State.closeSearch_stages (ch : ChannelId) (a : Actuation) : (s.closeSearch ch a).stages = s.stages := rfl
@[simp] theorem State.closeSearch_faults (ch : ChannelId) (a : Actuation) : (s.closeSearch ch a).faults = s.faults := rfl
@[simp] theorem State.closeSearch_monitor (ch : ChannelId) (a : Actuation) : (s.closeSearch ch a).monitor = s.monitor := rfl
@[simp] theorem State.closeSearch_modes (ch : ChannelId) (a : Actuation) : (s.closeSearch ch a).modes = s.modes := rfl
@[simp] theorem State.closeSearch_store (ch : ChannelId) (a : Actuation) : (s.closeSearch ch a).store = s.store := rfl
@[simp] theorem State.closeSearch_loader (ch : ChannelId) (a : Actuation) : (s.closeSearch ch a).loader = s.loader := rfl
@[simp] theorem State.closeSearch_link (ch : ChannelId) (a : Actuation) : (s.closeSearch ch a).link = s.link := rfl
@[simp] theorem State.closeSearch_profile (ch : ChannelId) (a : Actuation) (q : ProfileId) : (s.closeSearch ch a).profile q = s.profile q := rfl
@[simp] theorem State.closeSearch_channel (ch : ChannelId) (a : Actuation) (c : ChannelId) : (s.closeSearch ch a).channel c = s.channel c := rfl
@[simp] theorem State.closeSearch_stage (ch : ChannelId) (a : Actuation) (c : ChannelId) : (s.closeSearch ch a).stage c = s.stage c := rfl
@[simp] theorem State.closeSearch_chFault (ch : ChannelId) (a : Actuation) (c : ChannelId) : (s.closeSearch ch a).chFault c = s.chFault c := rfl

@[simp] theorem State.removePull_pending (ch : ChannelId) : (s.removePull ch).pending = s.pending := rfl
@[simp] theorem State.removePull_inFullReset (ch : ChannelId) : (s.removePull ch).inFullReset = s.inFullReset := rfl
@[simp] theorem State.removePull_profiles (ch : ChannelId) : (s.removePull ch).profiles = s.profiles := rfl
@[simp] theorem State.removePull_free (ch : ChannelId) : (s.removePull ch).free = s.free := rfl
@[simp] theorem State.removePull_channels (ch : ChannelId) : (s.removePull ch).channels = s.channels := rfl
@[simp] theorem State.removePull_stages (ch : ChannelId) : (s.removePull ch).stages = s.stages := rfl
@[simp] theorem State.removePull_diags (ch : ChannelId) : (s.removePull ch).diags = s.diags := rfl
@[simp] theorem State.removePull_monitor (ch : ChannelId) : (s.removePull ch).monitor = s.monitor := rfl
@[simp] theorem State.removePull_modes (ch : ChannelId) : (s.removePull ch).modes = s.modes := rfl
@[simp] theorem State.removePull_store (ch : ChannelId) : (s.removePull ch).store = s.store := rfl
@[simp] theorem State.removePull_loader (ch : ChannelId) : (s.removePull ch).loader = s.loader := rfl
@[simp] theorem State.removePull_link (ch : ChannelId) : (s.removePull ch).link = s.link := rfl
@[simp] theorem State.removePull_profile (ch : ChannelId) (q : ProfileId) : (s.removePull ch).profile q = s.profile q := rfl
@[simp] theorem State.removePull_channel (ch : ChannelId) (c : ChannelId) : (s.removePull ch).channel c = s.channel c := rfl
@[simp] theorem State.removePull_stage (ch : ChannelId) (c : ChannelId) : (s.removePull ch).stage c = s.stage c := rfl
@[simp] theorem State.removePull_diag (ch : ChannelId) (c : ChannelId) : (s.removePull ch).diag c = s.diag c := rfl

@[simp] theorem State.clearDeviceFlags_pending : (s.clearDeviceFlags).pending = s.pending := rfl
@[simp] theorem State.clearDeviceFlags_inFullReset : (s.clearDeviceFlags).inFullReset = s.inFullReset := rfl
@[simp] theorem State.clearDeviceFlags_profiles : (s.clearDeviceFlags).profiles = s.profiles := rfl
@[simp] theorem State.clearDeviceFlags_free : (s.clearDeviceFlags).free = s.free := rfl
@[simp] theorem State.clearDeviceFlags_channels : (s.clearDeviceFlags).channels = s.channels := rfl
@[simp] theorem State.clearDeviceFlags_stages : (s.clearDeviceFlags).stages = s.stages := rfl
@[simp] theorem State.clearDeviceFlags_diags : (s.clearDeviceFlags).diags = s.diags := rfl
@[simp] theorem State.clearDeviceFlags_monitor : (s.clearDeviceFlags).monitor = s.monitor := rfl
@[simp] theorem State.clearDeviceFlags_modes : (s.clearDeviceFlags).modes = s.modes := rfl
@[simp] theorem State.clearDeviceFlags_store : (s.clearDeviceFlags).store = s.store := rfl
@[simp] theorem State.clearDeviceFlags_loader : (s.clearDeviceFlags).loader = s.loader := rfl
@[simp] theorem State.clearDeviceFlags_link : (s.clearDeviceFlags).link = s.link := rfl
@[simp] theorem State.clearDeviceFlags_profile (q : ProfileId) : (s.clearDeviceFlags).profile q = s.profile q := rfl
@[simp] theorem State.clearDeviceFlags_channel (c : ChannelId) : (s.clearDeviceFlags).channel c = s.channel c := rfl
@[simp] theorem State.clearDeviceFlags_stage (c : ChannelId) : (s.clearDeviceFlags).stage c = s.stage c := rfl
@[simp] theorem State.clearDeviceFlags_diag (c : ChannelId) : (s.clearDeviceFlags).diag c = s.diag c := rfl

@[simp] theorem State.setMode_pending (m : PartMode) : (s.setMode m).pending = s.pending := rfl
@[simp] theorem State.setMode_inFullReset (m : PartMode) : (s.setMode m).inFullReset = s.inFullReset := rfl
@[simp] theorem State.setMode_profiles (m : PartMode) : (s.setMode m).profiles = s.profiles := rfl
@[simp] theorem State.setMode_free (m : PartMode) : (s.setMode m).free = s.free := rfl
@[simp] theorem State.setMode_channels (m : PartMode) : (s.setMode m).channels = s.channels := rfl
@[simp] theorem State.setMode_stages (m : PartMode) : (s.setMode m).stages = s.stages := rfl
@[simp] theorem State.setMode_diags (m : PartMode) : (s.setMode m).diags = s.diags := rfl
@[simp] theorem State.setMode_faults (m : PartMode) : (s.setMode m).faults = s.faults := rfl
@[simp] theorem State.setMode_monitor (m : PartMode) : (s.setMode m).monitor = s.monitor := rfl
@[simp] theorem State.setMode_store (m : PartMode) : (s.setMode m).store = s.store := rfl
@[simp] theorem State.setMode_loader (m : PartMode) : (s.setMode m).loader = s.loader := rfl
@[simp] theorem State.setMode_link (m : PartMode) : (s.setMode m).link = s.link := rfl
@[simp] theorem State.setMode_profile (m : PartMode) (q : ProfileId) : (s.setMode m).profile q = s.profile q := rfl
@[simp] theorem State.setMode_channel (m : PartMode) (c : ChannelId) : (s.setMode m).channel c = s.channel c := rfl
@[simp] theorem State.setMode_stage (m : PartMode) (c : ChannelId) : (s.setMode m).stage c = s.stage c := rfl
@[simp] theorem State.setMode_diag (m : PartMode) (c : ChannelId) : (s.setMode m).diag c = s.diag c := rfl
@[simp] theorem State.setMode_chFault (m : PartMode) (c : ChannelId) : (s.setMode m).chFault c = s.chFault c := rfl

@[simp] theorem State.seeNsafe_pending (l : LineLevel) : (s.seeNsafe l).pending = s.pending := rfl
@[simp] theorem State.seeNsafe_inFullReset (l : LineLevel) : (s.seeNsafe l).inFullReset = s.inFullReset := rfl
@[simp] theorem State.seeNsafe_profiles (l : LineLevel) : (s.seeNsafe l).profiles = s.profiles := rfl
@[simp] theorem State.seeNsafe_free (l : LineLevel) : (s.seeNsafe l).free = s.free := rfl
@[simp] theorem State.seeNsafe_channels (l : LineLevel) : (s.seeNsafe l).channels = s.channels := rfl
@[simp] theorem State.seeNsafe_stages (l : LineLevel) : (s.seeNsafe l).stages = s.stages := rfl
@[simp] theorem State.seeNsafe_diags (l : LineLevel) : (s.seeNsafe l).diags = s.diags := rfl
@[simp] theorem State.seeNsafe_faults (l : LineLevel) : (s.seeNsafe l).faults = s.faults := rfl
@[simp] theorem State.seeNsafe_monitor (l : LineLevel) : (s.seeNsafe l).monitor = s.monitor := rfl
@[simp] theorem State.seeNsafe_store (l : LineLevel) : (s.seeNsafe l).store = s.store := rfl
@[simp] theorem State.seeNsafe_loader (l : LineLevel) : (s.seeNsafe l).loader = s.loader := rfl
@[simp] theorem State.seeNsafe_link (l : LineLevel) : (s.seeNsafe l).link = s.link := rfl
@[simp] theorem State.seeNsafe_profile (l : LineLevel) (q : ProfileId) : (s.seeNsafe l).profile q = s.profile q := rfl
@[simp] theorem State.seeNsafe_channel (l : LineLevel) (c : ChannelId) : (s.seeNsafe l).channel c = s.channel c := rfl
@[simp] theorem State.seeNsafe_stage (l : LineLevel) (c : ChannelId) : (s.seeNsafe l).stage c = s.stage c := rfl
@[simp] theorem State.seeNsafe_diag (l : LineLevel) (c : ChannelId) : (s.seeNsafe l).diag c = s.diag c := rfl
@[simp] theorem State.seeNsafe_chFault (l : LineLevel) (c : ChannelId) : (s.seeNsafe l).chFault c = s.chFault c := rfl

@[simp] theorem State.setStore_pending (st : Store) : (s.setStore st).pending = s.pending := rfl
@[simp] theorem State.setStore_inFullReset (st : Store) : (s.setStore st).inFullReset = s.inFullReset := rfl
@[simp] theorem State.setStore_profiles (st : Store) : (s.setStore st).profiles = s.profiles := rfl
@[simp] theorem State.setStore_free (st : Store) : (s.setStore st).free = s.free := rfl
@[simp] theorem State.setStore_channels (st : Store) : (s.setStore st).channels = s.channels := rfl
@[simp] theorem State.setStore_stages (st : Store) : (s.setStore st).stages = s.stages := rfl
@[simp] theorem State.setStore_diags (st : Store) : (s.setStore st).diags = s.diags := rfl
@[simp] theorem State.setStore_faults (st : Store) : (s.setStore st).faults = s.faults := rfl
@[simp] theorem State.setStore_monitor (st : Store) : (s.setStore st).monitor = s.monitor := rfl
@[simp] theorem State.setStore_modes (st : Store) : (s.setStore st).modes = s.modes := rfl
@[simp] theorem State.setStore_loader (st : Store) : (s.setStore st).loader = s.loader := rfl
@[simp] theorem State.setStore_link (st : Store) : (s.setStore st).link = s.link := rfl
@[simp] theorem State.setStore_profile (st : Store) (q : ProfileId) : (s.setStore st).profile q = s.profile q := rfl
@[simp] theorem State.setStore_channel (st : Store) (c : ChannelId) : (s.setStore st).channel c = s.channel c := rfl
@[simp] theorem State.setStore_stage (st : Store) (c : ChannelId) : (s.setStore st).stage c = s.stage c := rfl
@[simp] theorem State.setStore_diag (st : Store) (c : ChannelId) : (s.setStore st).diag c = s.diag c := rfl
@[simp] theorem State.setStore_chFault (st : Store) (c : ChannelId) : (s.setStore st).chFault c = s.chFault c := rfl

@[simp] theorem State.recordSlot_pending (slot : Slot) : (s.recordSlot slot).pending = s.pending := rfl
@[simp] theorem State.recordSlot_inFullReset (slot : Slot) : (s.recordSlot slot).inFullReset = s.inFullReset := rfl
@[simp] theorem State.recordSlot_profiles (slot : Slot) : (s.recordSlot slot).profiles = s.profiles := rfl
@[simp] theorem State.recordSlot_free (slot : Slot) : (s.recordSlot slot).free = s.free := rfl
@[simp] theorem State.recordSlot_channels (slot : Slot) : (s.recordSlot slot).channels = s.channels := rfl
@[simp] theorem State.recordSlot_stages (slot : Slot) : (s.recordSlot slot).stages = s.stages := rfl
@[simp] theorem State.recordSlot_diags (slot : Slot) : (s.recordSlot slot).diags = s.diags := rfl
@[simp] theorem State.recordSlot_faults (slot : Slot) : (s.recordSlot slot).faults = s.faults := rfl
@[simp] theorem State.recordSlot_monitor (slot : Slot) : (s.recordSlot slot).monitor = s.monitor := rfl
@[simp] theorem State.recordSlot_modes (slot : Slot) : (s.recordSlot slot).modes = s.modes := rfl
@[simp] theorem State.recordSlot_loader (slot : Slot) : (s.recordSlot slot).loader = s.loader := rfl
@[simp] theorem State.recordSlot_link (slot : Slot) : (s.recordSlot slot).link = s.link := rfl
@[simp] theorem State.recordSlot_profile (slot : Slot) (q : ProfileId) : (s.recordSlot slot).profile q = s.profile q := rfl
@[simp] theorem State.recordSlot_channel (slot : Slot) (c : ChannelId) : (s.recordSlot slot).channel c = s.channel c := rfl
@[simp] theorem State.recordSlot_stage (slot : Slot) (c : ChannelId) : (s.recordSlot slot).stage c = s.stage c := rfl
@[simp] theorem State.recordSlot_diag (slot : Slot) (c : ChannelId) : (s.recordSlot slot).diag c = s.diag c := rfl
@[simp] theorem State.recordSlot_chFault (slot : Slot) (c : ChannelId) : (s.recordSlot slot).chFault c = s.chFault c := rfl

@[simp] theorem State.nextSlot_pending : (s.nextSlot).pending = s.pending := rfl
@[simp] theorem State.nextSlot_inFullReset : (s.nextSlot).inFullReset = s.inFullReset := rfl
@[simp] theorem State.nextSlot_profiles : (s.nextSlot).profiles = s.profiles := rfl
@[simp] theorem State.nextSlot_free : (s.nextSlot).free = s.free := rfl
@[simp] theorem State.nextSlot_channels : (s.nextSlot).channels = s.channels := rfl
@[simp] theorem State.nextSlot_stages : (s.nextSlot).stages = s.stages := rfl
@[simp] theorem State.nextSlot_diags : (s.nextSlot).diags = s.diags := rfl
@[simp] theorem State.nextSlot_faults : (s.nextSlot).faults = s.faults := rfl
@[simp] theorem State.nextSlot_monitor : (s.nextSlot).monitor = s.monitor := rfl
@[simp] theorem State.nextSlot_modes : (s.nextSlot).modes = s.modes := rfl
@[simp] theorem State.nextSlot_store : (s.nextSlot).store = s.store := rfl
@[simp] theorem State.nextSlot_link : (s.nextSlot).link = s.link := rfl
@[simp] theorem State.nextSlot_profile (q : ProfileId) : (s.nextSlot).profile q = s.profile q := rfl
@[simp] theorem State.nextSlot_channel (c : ChannelId) : (s.nextSlot).channel c = s.channel c := rfl
@[simp] theorem State.nextSlot_stage (c : ChannelId) : (s.nextSlot).stage c = s.stage c := rfl
@[simp] theorem State.nextSlot_diag (c : ChannelId) : (s.nextSlot).diag c = s.diag c := rfl
@[simp] theorem State.nextSlot_chFault (c : ChannelId) : (s.nextSlot).chFault c = s.chFault c := rfl

@[simp] theorem State.closeFrame_pending (bits : List Bool) : (s.closeFrame bits).pending = s.pending := rfl
@[simp] theorem State.closeFrame_inFullReset (bits : List Bool) : (s.closeFrame bits).inFullReset = s.inFullReset := rfl
@[simp] theorem State.closeFrame_profiles (bits : List Bool) : (s.closeFrame bits).profiles = s.profiles := rfl
@[simp] theorem State.closeFrame_free (bits : List Bool) : (s.closeFrame bits).free = s.free := rfl
@[simp] theorem State.closeFrame_channels (bits : List Bool) : (s.closeFrame bits).channels = s.channels := rfl
@[simp] theorem State.closeFrame_stages (bits : List Bool) : (s.closeFrame bits).stages = s.stages := rfl
@[simp] theorem State.closeFrame_diags (bits : List Bool) : (s.closeFrame bits).diags = s.diags := rfl
@[simp] theorem State.closeFrame_faults (bits : List Bool) : (s.closeFrame bits).faults = s.faults := rfl
@[simp] theorem State.closeFrame_monitor (bits : List Bool) : (s.closeFrame bits).monitor = s.monitor := rfl
@[simp] theorem State.closeFrame_modes (bits : List Bool) : (s.closeFrame bits).modes = s.modes := rfl
@[simp] theorem State.closeFrame_store (bits : List Bool) : (s.closeFrame bits).store = s.store := rfl
@[simp] theorem State.closeFrame_loader (bits : List Bool) : (s.closeFrame bits).loader = s.loader := rfl
@[simp] theorem State.closeFrame_profile (bits : List Bool) (q : ProfileId) : (s.closeFrame bits).profile q = s.profile q := rfl
@[simp] theorem State.closeFrame_channel (bits : List Bool) (c : ChannelId) : (s.closeFrame bits).channel c = s.channel c := rfl
@[simp] theorem State.closeFrame_stage (bits : List Bool) (c : ChannelId) : (s.closeFrame bits).stage c = s.stage c := rfl
@[simp] theorem State.closeFrame_diag (bits : List Bool) (c : ChannelId) : (s.closeFrame bits).diag c = s.diag c := rfl
@[simp] theorem State.closeFrame_chFault (bits : List Bool) (c : ChannelId) : (s.closeFrame bits).chFault c = s.chFault c := rfl

@[simp] theorem State.prepare_pending (r : Reply) : (s.prepare r).pending = s.pending := rfl
@[simp] theorem State.prepare_inFullReset (r : Reply) : (s.prepare r).inFullReset = s.inFullReset := rfl
@[simp] theorem State.prepare_profiles (r : Reply) : (s.prepare r).profiles = s.profiles := rfl
@[simp] theorem State.prepare_free (r : Reply) : (s.prepare r).free = s.free := rfl
@[simp] theorem State.prepare_channels (r : Reply) : (s.prepare r).channels = s.channels := rfl
@[simp] theorem State.prepare_stages (r : Reply) : (s.prepare r).stages = s.stages := rfl
@[simp] theorem State.prepare_diags (r : Reply) : (s.prepare r).diags = s.diags := rfl
@[simp] theorem State.prepare_faults (r : Reply) : (s.prepare r).faults = s.faults := rfl
@[simp] theorem State.prepare_monitor (r : Reply) : (s.prepare r).monitor = s.monitor := rfl
@[simp] theorem State.prepare_modes (r : Reply) : (s.prepare r).modes = s.modes := rfl
@[simp] theorem State.prepare_store (r : Reply) : (s.prepare r).store = s.store := rfl
@[simp] theorem State.prepare_loader (r : Reply) : (s.prepare r).loader = s.loader := rfl
@[simp] theorem State.prepare_profile (r : Reply) (q : ProfileId) : (s.prepare r).profile q = s.profile q := rfl
@[simp] theorem State.prepare_channel (r : Reply) (c : ChannelId) : (s.prepare r).channel c = s.channel c := rfl
@[simp] theorem State.prepare_stage (r : Reply) (c : ChannelId) : (s.prepare r).stage c = s.stage c := rfl
@[simp] theorem State.prepare_diag (r : Reply) (c : ChannelId) : (s.prepare r).diag c = s.diag c := rfl
@[simp] theorem State.prepare_chFault (r : Reply) (c : ChannelId) : (s.prepare r).chFault c = s.chFault c := rfl

/-! ### What each update's own accessor reads -/

/-- A vector set at one index reads there what was set, and elsewhere what it held. -/
theorem vector_get_set {α : Type} {n : Nat} (v : Vector α n) (i j : Fin n) (x : α) :
    (v.set i.val x i.isLt).get j = if j = i then x else v.get j := by
  simp only [Vector.get_eq_getElem, Vector.getElem_set, Fin.ext_iff, eq_comm]

theorem State.profile_setProfile (p q : ProfileId) (e : Profile) :
    (s.setProfile p e).profile q = if q = p then e else s.profile q := vector_get_set s.profiles p q e

theorem State.channel_setChannel (ch c : ChannelId) (r : Channel) :
    (s.setChannel ch r).channel c = if c = ch then r else s.channel c := vector_get_set s.channels ch c r

theorem State.stage_setStage (ch c : ChannelId) (st : Stage) :
    (s.setStage ch st).stage c = if c = ch then st else s.stage c := vector_get_set s.stages ch c st

theorem State.diag_setDiag (ch c : ChannelId) (u : Diag) :
    (s.setDiag ch u).diag c = if c = ch then u else s.diag c := vector_get_set s.diags ch c u

theorem State.chFault_setChFault (ch c : ChannelId) (f : ChannelFault) :
    (s.setChFault ch f).chFault c = if c = ch then f else s.chFault c :=
  vector_get_set s.faults.channels ch c f

@[simp] theorem State.profile_setProfile_same (p : ProfileId) (e : Profile) : (s.setProfile p e).profile p = e := by
  simp [State.profile_setProfile]

@[simp] theorem State.channel_setChannel_same (ch : ChannelId) (r : Channel) : (s.setChannel ch r).channel ch = r := by
  simp [State.channel_setChannel]

@[simp] theorem State.stage_setStage_same (ch : ChannelId) (st : Stage) : (s.setStage ch st).stage ch = st := by
  simp [State.stage_setStage]

@[simp] theorem State.diag_setDiag_same (ch : ChannelId) (u : Diag) : (s.setDiag ch u).diag ch = u := by
  simp [State.diag_setDiag]

@[simp] theorem State.chFault_setChFault_same (ch : ChannelId) (f : ChannelFault) :
    (s.setChFault ch f).chFault ch = f := by
  simp [State.chFault_setChFault]

@[simp] theorem State.free_allocate (n : Nat) : (s.allocate n).free = s.free - n := rfl
@[simp] theorem State.free_freeEntries (n : Nat) : (s.freeEntries n).free = s.free + n := rfl
@[simp] theorem State.modes_setMode (m : PartMode) : (s.setMode m).modes.mode = m := rfl
@[simp] theorem State.modes_setMode_nsafeSeen (m : PartMode) : (s.setMode m).modes.nsafeSeen = s.modes.nsafeSeen := rfl
@[simp] theorem State.modes_setMode_nsafeRemembered (m : PartMode) :
    (s.setMode m).modes.nsafeRemembered = s.modes.nsafeRemembered := rfl
@[simp] theorem State.store_setStore (st : Store) : (s.setStore st).store = st := rfl
@[simp] theorem State.link_prepare (r : Reply) : (s.prepare r).link = { s.link with prepared := r } := rfl
@[simp] theorem State.link_closeFrame (bits : List Bool) : (s.closeFrame bits).link = s.link.ended bits := rfl

/-- Setting one channel's fault items leaves the rest of the fault unit. -/
theorem State.faults_setChFault (ch : ChannelId) (f : ChannelFault) :
    (s.setChFault ch f).faults = { s.faults with channels := s.faults.channels.set ch.val f ch.isLt } := rfl

end Sys2Proof.Machine
end

