-- ==== Sys2Proof/Laws/Ops.lean ====
section
/-! SUPPORT. What the shared operations over the table, the bindings and the pool can do, each said once. -/

namespace Sys2Proof.Machine

/-! ### Lists of all channels and all profiles -/

theorem mem_allChannels (ch : ChannelId) : ch ∈ allChannels := by
  revert ch; decide

theorem mem_allProfiles (p : ProfileId) : p ∈ allProfiles := by
  revert p; decide

theorem nodup_allChannels : allChannels.Nodup := by decide

theorem nodup_allProfiles : allProfiles.Nodup := by decide

/-- A sum over a list without repeats, when one entry's term changes. -/
theorem sum_map_update {α : Type} [DecidableEq α] (l : List α) (hl : l.Nodup) (a : α) (ha : a ∈ l) (f g : α → Nat)
    (h : ∀ b, b ≠ a → g b = f b) : (l.map g).sum + f a = (l.map f).sum + g a := by
  induction l with
  | nil => cases ha
  | cons b l ih =>
    rw [List.nodup_cons] at hl
    rcases List.mem_cons.mp ha with rfl | hmem
    · have : l.map g = l.map f := List.map_congr_left fun c hc => h c fun hca => hl.1 (hca ▸ hc)
      simp only [List.map_cons, List.sum_cons, this]
      omega
    · have hb : b ≠ a := fun hba => hl.1 (hba ▸ hmem)
      have := ih hl.2 hmem
      simp only [List.map_cons, List.sum_cons, h b hb]
      omega

/-! ### What a profile holds -/

/-- The entries that a profile's three versions hold together. -/
def Profile.held (e : Profile) : Nat := versionSize e.live + draftSize e.draft + versionSize e.draining

/-- The entries that all versions hold are the sum over the profiles. -/
theorem State.held_eq (s : State) :
    s.heldLive + s.heldDrafts + s.heldDraining = (allProfiles.map fun p => (s.profile p).held).sum := by
  simp only [State.heldLive, State.heldDrafts, State.heldDraining, Profile.held]
  induction allProfiles with
  | nil => rfl
  | cons p l ih => simp only [List.map_cons, List.sum_cons]; omega

/-- How the entries that all versions hold move when one profile entry is replaced. -/
theorem State.held_setProfile (s : State) (p : ProfileId) (e : Profile) :
    (s.setProfile p e).heldLive + (s.setProfile p e).heldDrafts + (s.setProfile p e).heldDraining + (s.profile p).held =
      s.heldLive + s.heldDrafts + s.heldDraining + e.held := by
  rw [State.held_eq, State.held_eq]
  have := sum_map_update allProfiles nodup_allProfiles p (mem_allProfiles p) (fun q => (s.profile q).held)
    (fun q => ((s.setProfile p e).profile q).held) fun q hq => by simp [State.profile_setProfile, hq]
  simpa using this

/-- A change of a profile entry that leaves its versions' sizes and the free count keeps the pool's account. -/
theorem PoolAccounted.setProfile {s : State} (h : PoolAccounted s) (p : ProfileId) (e : Profile)
    (he : e.held = (s.profile p).held) : PoolAccounted (s.setProfile p e) := by
  have := s.held_setProfile p e
  simp only [PoolAccounted, State.setProfile_free] at *
  omega

/-! ### Commands that name a profile or a channel -/

/-- What a command that names a profile answers: BAD_TARGET, or what it does with the profile named. -/
theorem withProfile_eq (b : Byte) (s : State) (k : ProfileId → State × Answer) :
    (profileId? b = none ∧ withProfile b s k = refuse s .badTarget) ∨
      ∃ p, profileId? b = some p ∧ withProfile b s k = k p := by
  unfold withProfile
  split
  · next h => exact .inl ⟨h, rfl⟩
  · next p h => exact .inr ⟨p, h, rfl⟩

/-- What a command that names a channel answers: BAD_TARGET, or what it does with the channel named. -/
theorem withChannel_eq (b : Byte) (s : State) (k : ChannelId → State × Answer) :
    (channelId? b = none ∧ withChannel b s k = refuse s .badTarget) ∨
      ∃ ch, channelId? b = some ch ∧ withChannel b s k = k ch := by
  unfold withChannel
  split
  · next h => exact .inl ⟨h, rfl⟩
  · next ch h => exact .inr ⟨ch, h, rfl⟩

/-- What a command on a draft answers: BAD_TARGET, NO_DRAFT, or what it does with the draft. -/
theorem withDraft_eq (b : Byte) (s : State) (k : ProfileId → Shape → State × Answer) :
    (profileId? b = none ∧ withDraft b s k = refuse s .badTarget) ∨
      (∃ p, profileId? b = some p ∧ (s.profile p).draft = none ∧ withDraft b s k = refuse s .noDraft) ∨
      ∃ p d, profileId? b = some p ∧ (s.profile p).draft = some d ∧ withDraft b s k = k p d := by
  unfold withDraft withProfile
  cases h : profileId? b with
  | none => exact .inl ⟨rfl, rfl⟩
  | some p =>
    cases hd : (s.profile p).draft with
    | none => exact .inr (.inl ⟨p, rfl, hd, by simp [hd]⟩)
    | some d => exact .inr (.inr ⟨p, d, rfl, hd, by simp [hd]⟩)

/-- What a store write answers before its own conditions: STORE_CLOSED, STORE_BUSY, or what it does (R172 to R174). -/
theorem withSession_eq (s : State) (k : State × Answer) :
    (s.store.session ≠ .isOpen ∧ withSession s k = refuse s .storeClosed) ∨
      (s.store.session = .isOpen ∧ s.store.inFlight.isSome = true ∧ withSession s k = refuse s .storeBusy) ∨
      (s.store.session = .isOpen ∧ s.store.inFlight = none ∧ withSession s k = k) := by
  unfold withSession
  by_cases h : s.store.session = .isOpen
  · cases hf : s.store.inFlight <;> simp [h]
  · simp [h]

/-! ### Bindings -/

/-- Everything a removed binding changes: the channel's binding, and the count of the profile it named. -/
theorem State.removeBinding_eq (s : State) (ch : ChannelId) :
    ((s.channel ch).binding = none ∧ s.removeBinding ch = s) ∨
      ∃ p, (s.channel ch).binding = some p ∧
        s.removeBinding ch =
          (s.setProfile p { s.profile p with bindingCount := (s.profile p).bindingCount - 1 }).setChannel ch
            { s.channel ch with binding := none } := by
  unfold State.removeBinding
  split
  · next h => exact .inl ⟨h, rfl⟩
  · next p h => exact .inr ⟨p, h, rfl⟩

/-- The channel's binding is none once it is removed. -/
theorem State.removeBinding_binding (s : State) (ch : ChannelId) : ((s.removeBinding ch).channel ch).binding = none := by
  rcases s.removeBinding_eq ch with ⟨h, e⟩ | ⟨p, h, e⟩ <;> simp [e, h]

/-- The channel's binding is the profile it is bound to. -/
theorem State.bindTo_binding (s : State) (ch : ChannelId) (p : ProfileId) :
    ((s.bindTo ch p).channel ch).binding = some p := by
  unfold State.bindTo
  split
  · assumption
  · simp

/-- A binding to the profile already bound changes nothing (R6). -/
theorem State.bindTo_same (s : State) (ch : ChannelId) (p : ProfileId) (h : (s.channel ch).binding = some p) :
    s.bindTo ch p = s := by
  simp [State.bindTo, h]

/-! ### Engagements and verdicts -/

/-- Everything an engagement can do: refused, or the live version's count one higher (R7). -/
theorem State.engage_eq_some {s t : State} {p : ProfileId} {gen : Nat} (h : s.engage p = some (t, gen)) :
    ∃ v, (s.profile p).live = some v ∧ (s.profile p).withheld = false ∧ gen = v.gen ∧
      t = s.setProfile p { s.profile p with live := some { v with engaged := v.engaged + 1 } } := by
  simp only [State.engage] at h
  split at h
  · cases h
  · next v hv =>
    split at h
    · cases h
    · next hw =>
      simp only [Option.some.injEq, Prod.mk.injEq] at h
      exact ⟨v, hv, by simpa using hw, h.2.symm, h.1.symm⟩

/-- Everything a lost engagement of a draining version does (R8). -/
theorem State.loseDraining_eq (s : State) (p : ProfileId) (v : Version) :
    (v.engaged ≤ 1 ∧
        s.loseDraining p v = (s.setProfile p { s.profile p with draining := none }).freeEntries v.shape.size) ∨
      (1 < v.engaged ∧
        s.loseDraining p v = s.setProfile p { s.profile p with draining := some { v with engaged := v.engaged - 1 } }) := by
  unfold State.loseDraining
  split
  · exact .inl ⟨by assumption, rfl⟩
  · exact .inr ⟨by omega, rfl⟩

/-- Where the table found a generation live, the profile has a live version of that generation. -/
theorem State.kindOf_live {s : State} {p : ProfileId} {gen : Nat} (h : s.kindOf p gen = .live) :
    ∃ v, (s.profile p).live = some v ∧ v.gen = gen := by
  unfold State.kindOf at h
  split at h
  · cases h
  · next v hv =>
    split at h
    · exact ⟨v, hv, by assumption⟩
    · cases h

/-- Everything a disengagement can do: the live version's count one lower and the verdict counted, a draining version's loss
of an engagement, or nothing where no version has the generation (R8, R102, R125). -/
theorem State.disengage_eq (s : State) (p : ProfileId) (gen : Nat) (verdict : Verdict) :
    (∃ v, (s.profile p).live = some v ∧ v.gen = gen ∧ s.kindOf p gen = .live ∧
        s.disengage p gen verdict =
          s.setProfile p
            (({ s.profile p with live := some { v with engaged := v.engaged - 1 } } : Profile).count verdict)) ∨
      (∃ v, (s.profile p).draining = some v ∧ v.gen = gen ∧ s.kindOf p gen = .draining ∧
        s.disengage p gen verdict = s.loseDraining p v) ∨
      (s.kindOf p gen = .draining ∧ (∀ v, (s.profile p).draining = some v → v.gen ≠ gen) ∧
        s.disengage p gen verdict = s) := by
  unfold State.disengage
  cases hk : s.kindOf p gen with
  | live =>
    obtain ⟨v, hv, hg⟩ := State.kindOf_live hk
    refine .inl ⟨v, hv, hg, rfl, ?_⟩
    simp only [hv]
  | draining =>
    cases hd : (s.profile p).draining with
    | none => exact .inr (.inr ⟨rfl, by simp, by simp⟩)
    | some v =>
      by_cases hg : v.gen = gen
      · exact .inr (.inl ⟨v, rfl, hg, rfl, by simp [hg]⟩)
      · exact .inr (.inr ⟨rfl, by rintro w ⟨⟩; exact hg, by simp [hg]⟩)

/-- A counted verdict changes nothing but the failure run and the withheld flag. -/
theorem Profile.count_frame (e : Profile) (v : Verdict) :
    (e.count v).live = e.live ∧ (e.count v).draft = e.draft ∧ (e.count v).draining = e.draining ∧
      (e.count v).highWater = e.highWater ∧ (e.count v).bindingCount = e.bindingCount := by
  cases v <;> exact ⟨rfl, rfl, rfl, rfl, rfl⟩

end Sys2Proof.Machine
end

