-- ==== Sys2Proof/Laws/Actuation.lean ====
section
/-! SUPPORT. What an actuation's operations can reach: the profile table, the pool and their own channel, stage and unit, and
nothing else of the part. -/

namespace Sys2Proof.Machine

/-- Two states that differ at most in the profile table, the pool, and one channel's record, stage and diagnostic unit. -/
structure ChannelOnly (ch : ChannelId) (s t : State) : Prop where
  pending : t.pending = s.pending
  inFullReset : t.inFullReset = s.inFullReset
  faults : t.faults = s.faults
  monitor : t.monitor = s.monitor
  modes : t.modes = s.modes
  store : t.store = s.store
  loader : t.loader = s.loader
  link : t.link = s.link
  channel : ∀ c, c ≠ ch → t.channel c = s.channel c
  stage : ∀ c, c ≠ ch → t.stage c = s.stage c
  diag : ∀ c, c ≠ ch → t.diag c = s.diag c

namespace ChannelOnly

variable {ch : ChannelId} {s t u : State}

theorem refl (ch : ChannelId) (s : State) : ChannelOnly ch s s :=
  ⟨rfl, rfl, rfl, rfl, rfl, rfl, rfl, rfl, fun _ _ => rfl, fun _ _ => rfl, fun _ _ => rfl⟩

theorem trans (h : ChannelOnly ch s t) (k : ChannelOnly ch t u) : ChannelOnly ch s u :=
  ⟨k.pending.trans h.pending, k.inFullReset.trans h.inFullReset, k.faults.trans h.faults, k.monitor.trans h.monitor,
    k.modes.trans h.modes, k.store.trans h.store, k.loader.trans h.loader, k.link.trans h.link,
    fun c hc => (k.channel c hc).trans (h.channel c hc), fun c hc => (k.stage c hc).trans (h.stage c hc),
    fun c hc => (k.diag c hc).trans (h.diag c hc)⟩

/-- The fault items of every channel are as they were. -/
theorem chFault (h : ChannelOnly ch s t) (c : ChannelId) : t.chFault c = s.chFault c := by
  simp only [State.chFault, h.faults]

theorem setProfile (s : State) (ch : ChannelId) (p : ProfileId) (e : Profile) : ChannelOnly ch s (s.setProfile p e) :=
  ⟨rfl, rfl, rfl, rfl, rfl, rfl, rfl, rfl, fun _ _ => rfl, fun _ _ => rfl, fun _ _ => rfl⟩

theorem freeEntries (s : State) (ch : ChannelId) (n : Nat) : ChannelOnly ch s (s.freeEntries n) :=
  ⟨rfl, rfl, rfl, rfl, rfl, rfl, rfl, rfl, fun _ _ => rfl, fun _ _ => rfl, fun _ _ => rfl⟩

theorem setChannel (s : State) (ch : ChannelId) (r : Channel) : ChannelOnly ch s (s.setChannel ch r) :=
  ⟨rfl, rfl, rfl, rfl, rfl, rfl, rfl, rfl, fun c hc => by simp [State.channel_setChannel, hc], fun _ _ => rfl,
    fun _ _ => rfl⟩

theorem setStage (s : State) (ch : ChannelId) (st : Stage) : ChannelOnly ch s (s.setStage ch st) :=
  ⟨rfl, rfl, rfl, rfl, rfl, rfl, rfl, rfl, fun _ _ => rfl, fun c hc => by simp [State.stage_setStage, hc],
    fun _ _ => rfl⟩

theorem setDiag (s : State) (ch : ChannelId) (u : Diag) : ChannelOnly ch s (s.setDiag ch u) :=
  ⟨rfl, rfl, rfl, rfl, rfl, rfl, rfl, rfl, fun _ _ => rfl, fun _ _ => rfl,
    fun c hc => by simp [State.diag_setDiag, hc]⟩

theorem loseDraining (s : State) (ch : ChannelId) (p : ProfileId) (v : Version) :
    ChannelOnly ch s (s.loseDraining p v) := by
  rcases s.loseDraining_eq p v with ⟨_, e⟩ | ⟨_, e⟩ <;> rw [e]
  · exact (setProfile s ch p _).trans (freeEntries _ ch _)
  · exact setProfile s ch p _

theorem disengage (s : State) (ch : ChannelId) (p : ProfileId) (gen : Nat) (v : Verdict) :
    ChannelOnly ch s (s.disengage p gen v) := by
  rcases s.disengage_eq p gen v with ⟨_, _, _, _, e⟩ | ⟨w, _, _, _, e⟩ | ⟨_, _, e⟩ <;> rw [e]
  · exact setProfile s ch p _
  · exact loseDraining s ch p w
  · exact refl ch s

theorem removeBinding (s : State) (ch : ChannelId) : ChannelOnly ch s (s.removeBinding ch) := by
  rcases s.removeBinding_eq ch with ⟨_, e⟩ | ⟨p, _, e⟩ <;> rw [e]
  · exact refl ch s
  · exact (setProfile s ch p _).trans (setChannel _ ch _)

theorem settleEdge (s : State) (ch : ChannelId) : ChannelOnly ch s (s.settleEdge ch) := setChannel s ch _

theorem settleRecord (s : State) (ch : ChannelId) : ChannelOnly ch s (s.settleRecord ch) := by
  simp only [State.settleRecord]
  split
  · exact ((removeBinding s ch).trans (setChannel _ ch _)).trans (settleEdge _ ch)
  · exact settleEdge s ch

theorem takeDip (s : State) (ch : ChannelId) (a : Actuation) : ChannelOnly ch s (s.takeDip ch a) := by
  unfold State.takeDip
  split
  · exact setDiag s ch _
  · exact refl ch s

theorem takeSample (s : State) (ch : ChannelId) (a : Actuation) : ChannelOnly ch s (s.takeSample ch a) := by
  unfold State.takeSample
  split
  · exact setDiag s ch _
  · exact refl ch s

theorem settleUnit (s : State) (ch : ChannelId) : ChannelOnly ch s (s.settleUnit ch) := by
  simp only [State.settleUnit]
  split
  · exact refl ch s
  · next a _ => exact (takeDip s ch a).trans (takeSample _ ch a)

/-- The end step of an actuation reaches its own channel, the table and the pool. -/
theorem endActuation (s : State) (ch : ChannelId) (cause : EndCause) : ChannelOnly ch s (s.endActuation ch cause) := by
  simp only [State.endActuation]
  split
  · exact refl ch s
  · exact ((((settleUnit s ch).trans (setStage _ ch _)).trans (disengage _ ch _ _ _)).trans
      (setChannel _ ch _)).trans (settleRecord _ ch)

theorem enterRelease (s : State) (ch : ChannelId) (cause : EndCause) : ChannelOnly ch s (s.enterRelease ch cause) := by
  simp only [State.enterRelease]
  split
  · exact refl ch s
  · split
    · exact ((settleUnit s ch).trans (setDiag _ ch _)).trans (endActuation _ ch _)
    · exact ((settleUnit s ch).trans (setDiag _ ch _)).trans (setChannel _ ch _)

theorem endPhase (s : State) (ch : ChannelId) : ChannelOnly ch s (s.endPhase ch) := by
  simp only [State.endPhase]
  split
  · exact refl ch s
  · split
    · split
      · split
        · exact ((settleUnit s ch).trans (setDiag _ ch _)).trans (setChannel _ ch _)
        · exact (settleUnit s ch).trans (setChannel _ ch _)
      · exact enterRelease s ch _
    · split
      · exact setChannel s ch _
      · exact endActuation s ch _

/-- A release request reaches its own channel, the table and the pool. -/
theorem requestRelease (s : State) (ch : ChannelId) (a : Actuation) (source : ReleaseSource) :
    ChannelOnly ch s (s.requestRelease ch a source).1 := by
  simp only [State.requestRelease]
  split
  · exact refl ch s
  · split
    · exact enterRelease s ch _
    · exact setChannel s ch _

theorem settleEnds (s : State) (ch : ChannelId) : ChannelOnly ch s (s.settleEnds ch) := by
  simp only [State.settleEnds]
  split
  · exact refl ch s
  · split
    · exact enterRelease s ch _
    · split
      · exact enterRelease s ch _
      · split
        · exact endPhase s ch
        · exact refl ch s

theorem settleDue (s : State) (ch : ChannelId) : ChannelOnly ch s (s.settleDue ch) :=
  (settleUnit s ch).trans (settleEnds _ ch)

theorem drivenPeriod (s : State) (ch : ChannelId) (a : Actuation) (r : PeriodReport) :
    ChannelOnly ch s (s.drivenPeriod ch a r) := by
  simp only [State.drivenPeriod]
  split
  · exact setStage s ch _
  · split
    · exact (((setStage s ch _).trans (setChannel _ ch _)).trans (setDiag _ ch _)).trans (endPhase _ ch)
    · exact ((setStage s ch _).trans (setChannel _ ch _)).trans (setDiag _ ch _)

end ChannelOnly

/-! ### After an end -/

theorem State.settleEdge_running (s : State) (ch c : ChannelId) :
    ((s.settleEdge ch).channel c).running = (s.channel c).running := by
  simp only [State.settleEdge, State.channel_setChannel]
  split <;> simp_all

theorem State.removeBinding_running (s : State) (ch c : ChannelId) :
    ((s.removeBinding ch).channel c).running = (s.channel c).running := by
  rcases s.removeBinding_eq ch with ⟨_, e⟩ | ⟨p, _, e⟩ <;> rw [e]
  simp only [State.channel_setChannel, State.setProfile_channel]
  split <;> simp_all

theorem State.settleRecord_running (s : State) (ch c : ChannelId) :
    ((s.settleRecord ch).channel c).running = (s.channel c).running := by
  simp only [State.settleRecord, State.settleEdge_running]
  split
  · simp only [State.channel_setChannel]
    split
    · next h => rw [h]; exact s.removeBinding_running ch ch
    · exact s.removeBinding_running ch c
  · rfl

/-- After the end step of an actuation its channel runs none. -/
theorem State.endActuation_running (s : State) (ch : ChannelId) (cause : EndCause) :
    ((s.endActuation ch cause).channel ch).running = none := by
  simp only [State.endActuation]
  split
  · assumption
  · simp [State.settleRecord_running]

/-- An end step on a channel that runs none does nothing. -/
theorem State.endActuation_of_not_running {s : State} {ch : ChannelId} (cause : EndCause)
    (h : (s.channel ch).running = none) : s.endActuation ch cause = s := by
  simp [State.endActuation, h]

/-- What a fold over some channels leaves of a channel that is not among them. -/
theorem foldl_channelOnly (f : State → ChannelId → State) (hf : ∀ s ch, ChannelOnly ch s (f s ch)) (l : List ChannelId)
    (s : State) (c : ChannelId) (hc : c ∉ l) : (l.foldl f s).channel c = s.channel c := by
  induction l generalizing s with
  | nil => rfl
  | cons d l ih =>
    simp only [List.mem_cons, not_or] at hc
    rw [List.foldl_cons, ih _ hc.2, (hf s d).channel c hc.1]

/-- What a fold over some channels leaves of the rest of the part. -/
theorem foldl_rest (f : State → ChannelId → State) (hf : ∀ s ch, ChannelOnly ch s (f s ch)) (l : List ChannelId)
    (s : State) :
    (l.foldl f s).pending = s.pending ∧ (l.foldl f s).inFullReset = s.inFullReset ∧ (l.foldl f s).faults = s.faults ∧
      (l.foldl f s).monitor = s.monitor ∧ (l.foldl f s).modes = s.modes ∧ (l.foldl f s).store = s.store ∧
      (l.foldl f s).loader = s.loader ∧ (l.foldl f s).link = s.link := by
  induction l generalizing s with
  | nil => exact ⟨rfl, rfl, rfl, rfl, rfl, rfl, rfl, rfl⟩
  | cons d l ih =>
    have h := hf s d
    have k := ih (f s d)
    rw [List.foldl_cons]
    exact ⟨k.1.trans h.pending, k.2.1.trans h.inFullReset, k.2.2.1.trans h.faults, k.2.2.2.1.trans h.monitor,
      k.2.2.2.2.1.trans h.modes, k.2.2.2.2.2.1.trans h.store, k.2.2.2.2.2.2.1.trans h.loader,
      k.2.2.2.2.2.2.2.trans h.link⟩

/-- After every channel is stopped none runs an actuation. -/
theorem State.stopAll_running (s : State) (cause : EndCause) (c : ChannelId) :
    ((s.stopAll cause).channel c).running = none := by
  have key : ∀ (l : List ChannelId) (s : State), c ∈ l →
      ((l.foldl (fun s ch => s.abruptStop cause ch) s).channel c).running = none := by
    intro l
    induction l with
    | nil => intro s h; cases h
    | cons d l ih =>
      intro s h
      rw [List.foldl_cons]
      by_cases hl : c ∈ l
      · exact ih _ hl
      · have hd : c = d := by simpa [hl] using h
        rw [foldl_channelOnly (fun s ch => s.abruptStop cause ch) (fun s ch => ChannelOnly.endActuation s ch cause) l _ c hl,
          hd]
        exact s.endActuation_running d cause
  exact key allChannels s (mem_allChannels c)

/-- Stopping every channel leaves the rest of the part. -/
theorem State.stopAll_rest (s : State) (cause : EndCause) :
    (s.stopAll cause).pending = s.pending ∧ (s.stopAll cause).inFullReset = s.inFullReset ∧
      (s.stopAll cause).faults = s.faults ∧ (s.stopAll cause).monitor = s.monitor ∧
      (s.stopAll cause).modes = s.modes ∧ (s.stopAll cause).store = s.store ∧
      (s.stopAll cause).loader = s.loader ∧ (s.stopAll cause).link = s.link :=
  foldl_rest (fun s ch => s.abruptStop cause ch) (fun s ch => ChannelOnly.endActuation s ch cause) allChannels s

/-! ### Starts and releases -/

/-- Everything an accepted start does (R7, R78): the live version of the bound profile is engaged, the channel runs it from
energize position 0 with its edge-armed flag clear, its unit is reset and its pull removed. -/
theorem State.start_eq_some {s t : State} {ch : ChannelId} {o : Origin} {p : ProfileId} {gen : Nat}
    (h : s.start ch o = some (t, p, gen)) :
    ∃ v, (s.channel ch).binding = some p ∧ (s.profile p).live = some v ∧ (s.profile p).withheld = false ∧ gen = v.gen ∧
      (t.channel ch).running = some (startedActuation p gen o (s.stage ch).sensed) ∧
      (t.channel ch).edgeArmed = false ∧
      (t.profile p).live = some { v with engaged := v.engaged + 1 } := by
  simp only [State.start] at h
  split at h
  · cases h
  · next q hq =>
    split at h
    · cases h
    · next u g he =>
      obtain ⟨v, hv, hw, hg, hu⟩ := State.engage_eq_some he
      simp only [Option.some.injEq, Prod.mk.injEq] at h
      obtain ⟨ht, rfl, rfl⟩ := h
      subst hu
      refine ⟨v, hq, hv, hw, hg, ?_, ?_, ?_⟩ <;> rw [← ht] <;> simp

/-- Everything a release request can do (R93 to R96): nothing where one is held, the release at once where min_on is reached,
and otherwise a held release with its note. -/
theorem State.requestRelease_cases (s : State) (ch : ChannelId) (a : Actuation) (source : ReleaseSource) :
    (a.heldFrom.isSome = true ∧ s.requestRelease ch a source = (s, .alreadyHeld (s.minOnRemaining a))) ∨
      (a.heldFrom = none ∧ s.minOnPeriods a ≤ a.time ∧
        s.requestRelease ch a source = (s.enterRelease ch source.cause, .taken)) ∨
      (a.heldFrom = none ∧ a.time < s.minOnPeriods a ∧
        s.requestRelease ch a source =
          (s.setRunning ch { a with heldFrom := some source, earlyHeld := true }, .held (s.minOnRemaining a))) := by
  unfold State.requestRelease
  cases hh : a.heldFrom with
  | some _ => exact .inl ⟨rfl, by simp⟩
  | none =>
    by_cases hm : s.minOnPeriods a ≤ a.time
    · exact .inr (.inl ⟨rfl, hm, by simp [hm]⟩)
    · exact .inr (.inr ⟨rfl, by omega, by simp [hm]⟩)

/-! ### A channel's line, its period and the OPEN_LOAD latch -/

/-- Everything a sample of a channel's line can do (R72): set the level first seen, nothing on a level that does not change, and
otherwise a seen assertion or deassertion. -/
theorem State.sampleLine_cases (s : State) (ch : ChannelId) (level : LineLevel) :
    ((s.channel ch).ctlSeen = .unsampled ∧ s.sampleLine ch level = s.seeLine ch (seenAs level)) ∨
      ((s.channel ch).ctlSeen = seenAs level ∧ s.sampleLine ch level = s) ∨
      ((s.channel ch).ctlSeen = .deasserted ∧ level = .asserted ∧ s.sampleLine ch level = s.lineAsserted ch) ∨
      ((s.channel ch).ctlSeen = .asserted ∧ level = .deasserted ∧ s.sampleLine ch level = s.lineDeasserted ch) := by
  unfold State.sampleLine
  cases (s.channel ch).ctlSeen <;> cases level <;> simp [seenAs]

/-- A sample at the level last seen is no change (R72). -/
theorem State.sampleLine_same {s : State} {ch : ChannelId} {level : LineLevel}
    (h : (s.channel ch).ctlSeen = seenAs level) : s.sampleLine ch level = s := by
  unfold State.sampleLine
  cases level <;> simp_all [seenAs]

/-- What is due to a channel is taken, and the OPEN_LOAD latch is set where its window is full after that (R139). -/
theorem State.settleChannel_cases (s : State) (ch : ChannelId) :
    ((s.settleDue ch).openLoadDue ch = true ∧ s.settleChannel ch = (s.settleDue ch).latchOpenLoad ch) ∨
      ((s.settleDue ch).openLoadDue ch = false ∧ s.settleChannel ch = s.settleDue ch) := by
  cases h : (s.settleDue ch).openLoadDue ch <;> simp [State.settleChannel, h]

end Sys2Proof.Machine
end

