-- ==== Sys2Proof/Laws/Link.lean ====
section
/-! SUPPORT. Bits and bytes of a frame, and what the end of a command's frame can do, said once. -/

namespace Sys2Proof.Machine

/-! ### Bits and bytes -/

theorem byteBits_length (b : Byte) : (byteBits b).length = 8 := rfl

theorem bytesBits_cons (b : Byte) (bs : List Byte) : bytesBits (b :: bs) = byteBits b ++ bytesBits bs := rfl

/-- A list of bytes has eight bits for each. -/
theorem bytesBits_length (bs : List Byte) : (bytesBits bs).length = 8 * bs.length := by
  induction bs with
  | nil => rfl
  | cons b bs ih => simp only [bytesBits_cons, List.length_append, byteBits_length, List.length_cons, ih]; omega

/-- The eight bits of a byte spell that byte. -/
theorem byteOfBits_byteBits (b : Byte) :
    byteOfBits (b.getLsbD 7) (b.getLsbD 6) (b.getLsbD 5) (b.getLsbD 4) (b.getLsbD 3) (b.getLsbD 2) (b.getLsbD 1)
      (b.getLsbD 0) = b := by
  revert b; decide +kernel

/-- The bytes that the bits of bytes spell are those bytes. -/
theorem bitsBytes_bytesBits (bs : List Byte) : bitsBytes (bytesBits bs) = bs := by
  induction bs with
  | nil => rfl
  | cons b bs ih =>
    simp only [bytesBits_cons, byteBits, List.cons_append, List.nil_append, bitsBytes, byteOfBits_byteBits, ih]

theorem frameBytes_length (code : Byte) (f : Frame) : (frameBytes code f).length = 12 := rfl

/-- A command's frame has 96 bits. -/
theorem frameBits_length (code : Byte) (f : Frame) : (bytesBits (frameBytes code f)).length = 96 := by
  rw [bytesBits_length, frameBytes_length]

/-- A command's frame is accepted by its length and its check. -/
theorem frameAccepted_frameBytes (code : Byte) (f : Frame) : frameAccepted (bytesBits (frameBytes code f)) = true := by
  rw [frameAccepted, frameBits_length, bitsBytes_bytesBits]
  simp [Config.frameBits, checkByteRight, frameBytes]

/-! ### Codes -/

/-- A command's code is its own. -/
theorem commandOfCode_commandCode (c : Command) : commandOfCode (commandCode c) = some c := by
  cases c <;> decide

/-- A code that names a command is that command's. -/
theorem commandCode_of_commandOfCode {code : Byte} {c : Command} (h : commandOfCode code = some c) :
    commandCode c = code := by
  simpa using List.find?_some h

/-! ### The edges of SCK -/

/-- Where no frame is open, both edges of SCK are ignored (R184). -/
theorem LinkPort.sck_of_not_open {l : LinkPort} (h : l.frameOpen = false) (bit : Bool) :
    l.sckRises bit = l ∧ l.sckFalls = l := by
  simp [LinkPort.sckRises, LinkPort.sckFalls, h]

/-- What some clocked bits leave of a port with a frame open: they are in the receive buffer, and as many of the reply's are out
(R184). -/
theorem LinkPort.clocked_eq {l : LinkPort} (h : l.frameOpen = true) (hs : l.shifted ≤ Config.frameBits) (bits : List Bool) :
    l.clocked bits =
      { l with received := l.received ++ bits, shifted := min (l.shifted + bits.length) Config.frameBits } := by
  induction bits generalizing l with
  | nil => simp [LinkPort.clocked, Nat.min_eq_left hs]
  | cons bit bits ih =>
    have hm : min (min Config.frameBits (l.shifted + 1) + bits.length) Config.frameBits =
        min (l.shifted + (bits.length + 1)) Config.frameBits := by omega
    have step : l.clocked (bit :: bits) = ((l.sckRises bit).sckFalls).clocked bits := rfl
    rw [step, ih] <;> simp [LinkPort.sckRises, LinkPort.sckFalls, h, hm]

/-- What a whole frame leaves of a port with a frame open (R184). -/
theorem LinkPort.ended_eq {l : LinkPort} (h : l.frameOpen = true) (bits : List Bool) :
    l.ended bits = { l with received := bits, frameOpen := false, shifted := min bits.length Config.frameBits } := by
  have := LinkPort.clocked_eq (l := { l with received := [], shifted := 0 }) h (Nat.zero_le _) bits
  rw [LinkPort.ended, this]
  simp

/-- The end of a frame leaves the prepared reply and the transmit buffer. -/
theorem LinkPort.ended_frame (l : LinkPort) (bits : List Bool) :
    (l.ended bits).prepared = l.prepared ∧ (l.ended bits).transmit = l.transmit ∧ (l.ended bits).frameOpen = false := by
  have key : ∀ (bits : List Bool) (l : LinkPort),
      (l.clocked bits).prepared = l.prepared ∧ (l.clocked bits).transmit = l.transmit := by
    intro bits
    induction bits with
    | nil => exact fun l => ⟨rfl, rfl⟩
    | cons bit bits ih =>
      intro l
      obtain ⟨h1, h2⟩ := ih (l.sckRises bit).sckFalls
      refine ⟨h1.trans ?_, h2.trans ?_⟩ <;> cases h : l.frameOpen <;> simp [LinkPort.sckRises, LinkPort.sckFalls, h]
  exact ⟨(key bits _).1, (key bits _).2, rfl⟩

/-! ### The end of a command's frame -/

/-- The port closing a command's frame and preparing its reply, and nothing more. -/
theorem State.prepare_closeFrame {s : State} (h : s.link.frameOpen = true) (c : Command) (f : Frame) (r : ResultCode) (d : ReplyData) :
    (s.closeFrame (bytesBits (frameBytes (commandCode c) f))).prepare
      { result := r, code := commandCode c, tag := some (frameTag f), data := d } = s.replied c f r d := by
  unfold State.prepare State.closeFrame State.replied
  rw [LinkPort.ended_eq h, frameBits_length]
  rfl

/-- Where no frame is taken, nothing changes. -/
theorem linkCommand_of_not_taken (c : Command) (f : Frame) (s : State) (owner : State → State × Answer)
    (h : s.frameTaken = false) : linkCommand c f s owner = s := by
  simp [linkCommand, h]

/-- The port's judgment leaves the state to the owner or to no one: a refusal carries no data, and the owner is reached only
past the four orders of R188. -/
theorem judge_eq (c : Command) (f : Frame) (s : State) (owner : State → State × Answer) :
    (s.modes.mode = .loading ∧ judge c f s owner = (s, { result := .notReady })) ∨
      (s.modes.mode ≠ .loading ∧ reservedClear c f = false ∧ judge c f s owner = (s, { result := .badParam })) ∨
      (s.modes.mode ≠ .loading ∧ reservedClear c f = true ∧ s.modes.mode.accepts c = false ∧
        judge c f s owner = (s, { result := .modeRefused })) ∨
      (s.modes.mode ≠ .loading ∧ reservedClear c f = true ∧ s.modes.mode.accepts c = true ∧
        judge c f s owner = owner s) := by
  by_cases hl : s.modes.mode = .loading
  · exact .inl ⟨hl, by simp [judge, hl, refuse]⟩
  · cases hr : reservedClear c f
    · exact .inr (.inl ⟨hl, rfl, by simp [judge, hl, hr, refuse]⟩)
    · cases ha : s.modes.mode.accepts c
      · exact .inr (.inr (.inl ⟨hl, rfl, rfl, by simp [judge, hl, hr, ha, refuse]⟩))
      · exact .inr (.inr (.inr ⟨hl, rfl, rfl, by simp [judge, hl, hr, ha]⟩))

/-- Everything the end of a command's frame can do: nothing, a refusal by the port, or what the owner does to the state that
the port has closed the frame of, with the reply prepared. -/
theorem linkCommand_cases (c : Command) (f : Frame) (s : State) (owner : State → State × Answer) :
    linkCommand c f s owner = s ∨
      (∃ r, linkCommand c f s owner = s.replied c f r {}) ∨
      (s.admits c f ∧
        linkCommand c f s owner =
          (owner (s.closeFrame (bytesBits (frameBytes (commandCode c) f)))).1.prepare
            { result := (owner (s.closeFrame (bytesBits (frameBytes (commandCode c) f)))).2.result
              code := commandCode c, tag := some (frameTag f)
              data := (owner (s.closeFrame (bytesBits (frameBytes (commandCode c) f)))).2.data }) := by
  cases ht : s.frameTaken with
  | false => exact .inl (linkCommand_of_not_taken c f s owner ht)
  | true =>
    have hs : s.inFullReset = false ∧ s.link.frameOpen = true := by simpa [State.frameTaken] using ht
    rcases judge_eq c f (s.closeFrame (bytesBits (frameBytes (commandCode c) f))) owner with
      ⟨_, e⟩ | ⟨_, _, e⟩ | ⟨_, _, _, e⟩ | ⟨hm, hr, ha, e⟩
    · exact .inr (.inl ⟨.notReady, by rw [linkCommand, if_pos ht, e]; exact State.prepare_closeFrame hs.2 c f _ _⟩)
    · exact .inr (.inl ⟨.badParam, by rw [linkCommand, if_pos ht, e]; exact State.prepare_closeFrame hs.2 c f _ _⟩)
    · exact .inr (.inl ⟨.modeRefused, by rw [linkCommand, if_pos ht, e]; exact State.prepare_closeFrame hs.2 c f _ _⟩)
    · refine .inr (.inr ⟨⟨hs.1, hs.2, hm, hr, ha⟩, ?_⟩)
      rw [linkCommand, if_pos ht, e]

/-- An admitted command does what its owner does to the state that the port has closed the frame of. -/
theorem linkCommand_admitted {c : Command} {f : Frame} {s : State} (owner : State → State × Answer)
    (h : s.admits c f) {t : State} {a : Answer}
    (ho : owner (s.closeFrame (bytesBits (frameBytes (commandCode c) f))) = (t, a)) :
    linkCommand c f s owner =
      t.prepare { result := a.result, code := commandCode c, tag := some (frameTag f), data := a.data } := by
  obtain ⟨h1, h2, h3, h4, h5⟩ := h
  rcases judge_eq c f (s.closeFrame (bytesBits (frameBytes (commandCode c) f))) owner with
    ⟨hm, _⟩ | ⟨_, hr, _⟩ | ⟨_, _, ha, _⟩ | ⟨_, _, _, e⟩
  · exact absurd hm h3
  · rw [h4] at hr; cases hr
  · rw [State.closeFrame_modes, h5] at ha; cases ha
  · simp [linkCommand, State.frameTaken, h1, h2, e, ho]

/-- An owner that answers without changing the state leaves the reply and nothing else. -/
theorem linkCommand_reply {c : Command} {f : Frame} {s : State} (owner : State → State × Answer) (h : s.admits c f)
    {a : Answer}
    (ho : owner (s.closeFrame (bytesBits (frameBytes (commandCode c) f))) =
      (s.closeFrame (bytesBits (frameBytes (commandCode c) f)), a)) :
    linkCommand c f s owner = s.replied c f a.result a.data := by
  rw [linkCommand_admitted owner h ho, State.prepare_closeFrame h.2.1]

/-- Taking a frame whose owner only answers keeps the pool's account. -/
theorem PoolAccounted.replied {s : State} (h : PoolAccounted s) (c : Command) (f : Frame) (r : ResultCode) (d : ReplyData) :
    PoolAccounted (s.replied c f r d) := h

end Sys2Proof.Machine
end

