-- ==== Sys2Proof/Laws/Part.lean ====
section
/-! SUPPORT. What the store's operations and the operations over the whole part can do, each said once, and that an actuation's end
does not see the link port. -/

namespace Sys2Proof.Machine

/-! ### The store -/

/-- A store whose write in flight is not due, or that has none, is left alone; a due write completes. -/
theorem Store.settleWrite_cases (st : Store) :
    (st.inFlight = none ∧ st.settleWrite = st) ∨
      ∃ w, st.inFlight = some w ∧
        ((w.remaining = 0 ∧ st.settleWrite = st.completeWrite w) ∨ (0 < w.remaining ∧ st.settleWrite = st)) := by
  unfold Store.settleWrite
  split
  · next h => exact .inl ⟨h, rfl⟩
  · next w h =>
    refine .inr ⟨w, h, ?_⟩
    by_cases hw : w.remaining = 0
    · exact .inl ⟨hw, by simp [Write.due, hw]⟩
    · exact .inr ⟨by omega, by simp [Write.due, hw]⟩

/-- A session's loss closes it and abandons the write in flight, the copies as they were. -/
theorem Store.abandon_frame (st : Store) :
    st.abandon.session = .closed ∧ st.abandon.inFlight = none ∧ st.abandon.array = st.array ∧ st.abandon.record = st.record ∧
      st.abandon.locked = st.locked := by
  unfold Store.abandon
  split
  · next h => exact ⟨rfl, h, rfl, rfl, rfl⟩
  · exact ⟨rfl, rfl, rfl, rfl, rfl⟩

/-- Leaving STANDBY reaches the session alone. -/
theorem Store.leaveStandby_frame (st : Store) : st.leaveStandby = { st with session := st.leaveStandby.session } := by
  unfold Store.leaveStandby
  split <;> rfl

/-- What the start of a write leaves of the other copies, slot by slot. -/
theorem Store.beginWrite_cells (st : Store) (slot other : Slot) (copy : Nat) (snapshot : CopyContent) :
    (st.beginWrite slot copy snapshot).cells other =
      if other = slot then (st.cells slot).set (copy - 1) .partlyWritten else st.cells other := by
  simp only [Store.beginWrite, Store.setCell, Store.setCopyState, Store.cells]
  by_cases h : other = slot
  · subst h; simp [Vector.get_eq_getElem]
  · have : slot.val ≠ other.val := fun e => h (Fin.ext e.symm)
    simp [Vector.get_eq_getElem, h, this]

/-- What the completion of a write leaves of the other copies, slot by slot. -/
theorem Store.completeWrite_cells (st : Store) (w : Write) (other : Slot) :
    (st.completeWrite w).cells other =
      if other = w.slot then (st.cells w.slot).set (w.copy - 1) (.written w.snapshot (checkWord w.snapshot))
      else st.cells other := by
  simp only [Store.completeWrite, Store.setCell, Store.setCopyState, Store.cells]
  by_cases h : other = w.slot
  · subst h; simp [Vector.get_eq_getElem]
  · have : w.slot.val ≠ other.val := fun e => h (Fin.ext e.symm)
    simp [Vector.get_eq_getElem, h, this]

/-! ### The monitor and the modes -/

/-- An onset suspends an ARMED part and no other. -/
theorem State.suspend_cases (s : State) (cause : EndCause) :
    (s.modes.mode = .armed ∧ s.suspend cause = (s.stopAll cause).setMode .suspended) ∨
      (s.modes.mode ≠ .armed ∧ s.suspend cause = s) := by
  unfold State.suspend
  split
  · exact .inl ⟨‹_›, rfl⟩
  · exact .inr ⟨‹_›, rfl⟩

/-- A clearing resumes a SUSPENDED part with neither condition present, and no other. -/
theorem State.resume_cases (s : State) :
    (s.modes.mode = .suspended ∧ s.monitor.uvm = false ∧ s.monitor.ovt = false ∧ s.resume = s.setMode .armed) ∨
      (¬ (s.modes.mode = .suspended ∧ s.monitor.uvm = false ∧ s.monitor.ovt = false) ∧ s.resume = s) := by
  unfold State.resume
  by_cases h : s.modes.mode = .suspended ∧ s.monitor.uvm = false ∧ s.monitor.ovt = false
  · exact .inl ⟨h.1, h.2.1, h.2.2, by simp [h.1, h.2.1, h.2.2]⟩
  · refine .inr ⟨h, if_neg ?_⟩
    simpa using h

/-- What a VS measurement makes of the UVM condition. -/
theorem State.judgeUvm_cases (s : State) (vs : Nat) :
    (s.monitor.uvm = false ∧ vs < 600 ∧ s.judgeUvm vs = s.onsetUvm) ∨
      (s.monitor.uvm = true ∧ 650 < vs ∧ s.judgeUvm vs = s.clearUvm) ∨ s.judgeUvm vs = s := by
  cases h : s.monitor.uvm <;> simp only [State.judgeUvm, h, Config.uvmOnsetBelow, Config.uvmClearsAbove]
  · by_cases hv : vs < 600 <;> simp [hv]
  · by_cases hv : 650 < vs <;> simp [hv]

/-- What a VS measurement makes of PROG_OK. -/
theorem State.judgeProgOk_cases (s : State) (vs : Nat) :
    (s.monitor.progOk = false ∧ 1100 ≤ vs ∧
        s.judgeProgOk vs = { s with monitor := { s.monitor with progOk := true } }) ∨
      (s.monitor.progOk = true ∧ vs < 1050 ∧ s.judgeProgOk vs = s.loseProgOk) ∨ s.judgeProgOk vs = s := by
  cases h : s.monitor.progOk <;> simp only [State.judgeProgOk, h, Config.progOkFrom, Config.progOkLostBelow]
  · by_cases hv : 1100 ≤ vs <;> simp [hv]
  · by_cases hv : vs < 1050 <;> simp [hv]

/-- What a temperature measurement makes of the OVT condition. -/
theorem State.judgeOvt_cases (s : State) (temp : Int) :
    (s.monitor.ovt = false ∧ 165 ≤ temp ∧ s.judgeOvt temp = s.onsetOvt) ∨
      (s.monitor.ovt = true ∧ temp < 145 ∧ s.judgeOvt temp = s.clearOvt) ∨ s.judgeOvt temp = s := by
  cases h : s.monitor.ovt <;> simp only [State.judgeOvt, h, Config.ovtOnsetFrom, Config.ovtClearsBelow]
  · by_cases hv : 165 ≤ temp <;> simp [hv]
  · by_cases hv : temp < 145 <;> simp [hv]

/-- What becomes of a stretch timer at its stop and over a period (R150). -/
theorem settleStretch_eq (timer : Option Nat) :
    settleStretch timer = timer.filter (fun n => n ≠ 0) ∧
      stretchPeriod timer = timer.bind fun n => if n = 0 then none else some (n - 1) := by
  unfold stretchPeriod
  cases timer with
  | none => exact ⟨rfl, rfl⟩
  | some n => by_cases h : n = 0 <;> simp [settleStretch, Option.filter, h]

/-! ### What an actuation's end does not see -/

/-- The state with its link port replaced. -/
def State.withLink (s : State) (l : LinkPort) : State := { s with link := l }

section

variable (s : State) (l : LinkPort) (ch : ChannelId)

@[simp] theorem State.withLink_pending : (s.withLink l).pending = s.pending := rfl
@[simp] theorem State.withLink_inFullReset : (s.withLink l).inFullReset = s.inFullReset := rfl
@[simp] theorem State.withLink_profiles : (s.withLink l).profiles = s.profiles := rfl
@[simp] theorem State.withLink_free : (s.withLink l).free = s.free := rfl
@[simp] theorem State.withLink_channels : (s.withLink l).channels = s.channels := rfl
@[simp] theorem State.withLink_stages : (s.withLink l).stages = s.stages := rfl
@[simp] theorem State.withLink_diags : (s.withLink l).diags = s.diags := rfl
@[simp] theorem State.withLink_faults : (s.withLink l).faults = s.faults := rfl
@[simp] theorem State.withLink_monitor : (s.withLink l).monitor = s.monitor := rfl
@[simp] theorem State.withLink_modes : (s.withLink l).modes = s.modes := rfl
@[simp] theorem State.withLink_store : (s.withLink l).store = s.store := rfl
@[simp] theorem State.withLink_loader : (s.withLink l).loader = s.loader := rfl
@[simp] theorem State.withLink_link : (s.withLink l).link = l := rfl
@[simp] theorem State.withLink_profile (p : ProfileId) : (s.withLink l).profile p = s.profile p := rfl
@[simp] theorem State.withLink_channel : (s.withLink l).channel ch = s.channel ch := rfl
@[simp] theorem State.withLink_stage : (s.withLink l).stage ch = s.stage ch := rfl
@[simp] theorem State.withLink_diag : (s.withLink l).diag ch = s.diag ch := rfl
@[simp] theorem State.withLink_chFault : (s.withLink l).chFault ch = s.chFault ch := rfl

theorem State.closeFrame_eq_withLink (bits : List Bool) :
    s.closeFrame bits = s.withLink (s.closeFrame bits).link := rfl

theorem State.prepare_eq_withLink (r : Reply) : s.prepare r = s.withLink (s.prepare r).link := rfl

theorem State.shapeOf_withLink (a : Actuation) : (s.withLink l).shapeOf a = s.shapeOf a := rfl

theorem State.phaseOf_withLink (a : Actuation) : (s.withLink l).phaseOf a = s.phaseOf a := rfl

theorem State.takeDip_withLink (a : Actuation) : (s.withLink l).takeDip ch a = (s.takeDip ch a).withLink l := by
  cases h : (s.diag ch).dipDue (s.shapeOf a).fields <;>
    simp only [State.takeDip, State.withLink_diag, State.shapeOf_withLink, h] <;> rfl

theorem State.takeSample_withLink (a : Actuation) : (s.withLink l).takeSample ch a = (s.takeSample ch a).withLink l := by
  cases h : (s.phaseOf a).any fun ph => (s.diag ch).sampleDue a.seq ph a.phaseTime <;>
    simp only [State.takeSample, State.withLink_diag, State.withLink_stage, State.phaseOf_withLink, State.shapeOf_withLink, h] <;>
    rfl

theorem State.settleUnit_withLink : (s.withLink l).settleUnit ch = (s.settleUnit ch).withLink l := by
  simp only [State.settleUnit, State.withLink_channel]
  cases (s.channel ch).running with
  | none => rfl
  | some a => simp only [State.takeDip_withLink, State.takeSample_withLink]

theorem State.loseDraining_withLink (p : ProfileId) (v : Version) :
    (s.withLink l).loseDraining p v = (s.loseDraining p v).withLink l := by
  simp only [State.loseDraining]; split <;> rfl

theorem State.disengage_withLink (p : ProfileId) (gen : Nat) (v : Verdict) :
    (s.withLink l).disengage p gen v = (s.disengage p gen v).withLink l := by
  have hk : (s.withLink l).kindOf p gen = s.kindOf p gen := rfl
  simp only [State.disengage, hk, State.withLink_profile]
  cases s.kindOf p gen with
  | live => cases (s.profile p).live <;> rfl
  | draining =>
    cases (s.profile p).draining with
    | none => rfl
    | some w =>
      dsimp only
      split
      · exact s.loseDraining_withLink l p w
      · rfl

theorem State.removeBinding_withLink : (s.withLink l).removeBinding ch = (s.removeBinding ch).withLink l := by
  simp only [State.removeBinding, State.withLink_channel]
  cases (s.channel ch).binding <;> rfl

theorem State.settleRecord_withLink : (s.withLink l).settleRecord ch = (s.settleRecord ch).withLink l := by
  simp only [State.settleRecord, State.withLink_channel, State.removeBinding_withLink]
  cases (s.channel ch).unbindPending <;> rfl

theorem State.kindOf_withLink (p : ProfileId) (gen : Nat) : (s.withLink l).kindOf p gen = s.kindOf p gen := rfl

theorem State.setChannel_withLink (r : Channel) : (s.withLink l).setChannel ch r = (s.setChannel ch r).withLink l := rfl

theorem State.stageOff_withLink : (s.withLink l).stageOff ch = (s.stageOff ch).withLink l := rfl

/-- The end of an actuation neither reads nor reaches the link port. -/
theorem State.endActuation_withLink (cause : EndCause) :
    (s.withLink l).endActuation ch cause = (s.endActuation ch cause).withLink l := by
  simp only [State.endActuation, State.withLink_channel]
  cases (s.channel ch).running with
  | none => rfl
  | some a =>
    simp only [State.settleUnit_withLink, State.stageOff_withLink, State.withLink_channel, State.withLink_diag,
      State.kindOf_withLink, State.disengage_withLink, State.setChannel_withLink, State.settleRecord_withLink]

theorem State.closeSearch_withLink (a : Actuation) :
    (s.withLink l).closeSearch ch a = (s.closeSearch ch a).withLink l := rfl

theorem State.moveTo_withLink (a : Actuation) (q : Seq) (pos : Nat) :
    (s.withLink l).moveTo ch a q pos = (s.moveTo ch a q pos).withLink l := rfl

/-- Leaving the energize sequence neither reads nor reaches the link port. -/
theorem State.enterRelease_withLink (cause : EndCause) :
    (s.withLink l).enterRelease ch cause = (s.enterRelease ch cause).withLink l := by
  simp only [State.enterRelease, State.withLink_channel]
  cases (s.channel ch).running with
  | none => rfl
  | some a =>
    simp only [State.settleUnit_withLink, State.closeSearch_withLink, State.shapeOf_withLink]
    split
    · rw [State.endActuation_withLink]
    · rw [State.moveTo_withLink]

/-- A release request neither reads nor reaches the link port. -/
theorem State.requestRelease_withLink (a : Actuation) (source : ReleaseSource) :
    (s.withLink l).requestRelease ch a source =
      ((s.requestRelease ch a source).1.withLink l, (s.requestRelease ch a source).2) := by
  have hp : (s.withLink l).minOnPeriods a = s.minOnPeriods a := rfl
  have hr : (s.withLink l).minOnRemaining a = s.minOnRemaining a := rfl
  simp only [State.requestRelease, hp, hr]
  split
  · rfl
  · split
    · rw [State.enterRelease_withLink]
    · rfl

theorem foldl_withLink (f : State → ChannelId → State) (hf : ∀ s l ch, f (s.withLink l) ch = (f s ch).withLink l)
    (chs : List ChannelId) : chs.foldl f (s.withLink l) = (chs.foldl f s).withLink l := by
  induction chs generalizing s with
  | nil => rfl
  | cons c chs ih => rw [List.foldl_cons, List.foldl_cons, hf, ih]

/-- Stopping every channel neither reads nor reaches the link port. -/
theorem State.stopAll_withLink (cause : EndCause) : (s.withLink l).stopAll cause = (s.stopAll cause).withLink l :=
  foldl_withLink s l _ (fun s l ch => s.endActuation_withLink l ch cause) allChannels

theorem State.setMode_withLink (m : PartMode) : (s.withLink l).setMode m = (s.setMode m).withLink l := rfl

/-- The entry to SAFE from STANDBY, and from another mode. -/
theorem State.enterSafe_eq :
    (s.modes.mode = .standby → s.enterSafe =
        (({ s with store := s.store.leaveStandby } : State).stopAll .safeStop).setMode .safe) ∧
      (s.modes.mode ≠ .standby → s.enterSafe = (s.stopAll .safeStop).setMode .safe) :=
  ⟨fun h => by unfold State.enterSafe; rw [if_pos h], fun h => by unfold State.enterSafe; rw [if_neg h]⟩

/-- What a sample of nSAFE leaves: a deasserted one and one in SAFE the level last seen alone, one in LOADING the remembrance too, and
an asserted one in another mode the entry to SAFE (R155). -/
theorem State.sampleNsafe_cases (level : LineLevel) :
    (level = .deasserted ∧ s.sampleNsafe level = s.seeNsafe .deasserted) ∨
      (level = .asserted ∧ s.modes.mode = .loading ∧ s.sampleNsafe level =
        { s with modes := { s.modes with nsafeSeen := .asserted, nsafeRemembered := true } }) ∨
      (level = .asserted ∧ s.modes.mode = .safe ∧ s.sampleNsafe level = s.seeNsafe .asserted) ∨
      (level = .asserted ∧ s.modes.mode ≠ .loading ∧ s.modes.mode ≠ .safe ∧
        s.sampleNsafe level = (s.seeNsafe .asserted).enterSafe) := by
  cases level with
  | deasserted => exact .inl ⟨rfl, rfl⟩
  | asserted =>
    have hm : (s.seeNsafe .asserted).modes.mode = s.modes.mode := rfl
    unfold State.sampleNsafe State.nsafeActs
    cases h : s.modes.mode <;> simp [hm, h]
    rfl

/-- The entry to SAFE neither reads nor reaches the link port. -/
theorem State.enterSafe_withLink : (s.withLink l).enterSafe = s.enterSafe.withLink l := by
  by_cases h : s.modes.mode = .standby
  · rw [(s.withLink l).enterSafe_eq.1 h, s.enterSafe_eq.1 h, ← State.setMode_withLink, ← State.stopAll_withLink]
    rfl
  · rw [(s.withLink l).enterSafe_eq.2 h, s.enterSafe_eq.2 h, State.stopAll_withLink, State.setMode_withLink]

end

end Sys2Proof.Machine
end

