-- ==== Sys2Proof/Laws/PerInstr.lean ====
section
/-! SUPPORT. What is said of each command as syntax: the frame that carries a link command is one the port's length and check
accept (R185, R186). -/

namespace Sys2Proof.Laws

/-- The twelve bytes written for a command that a frame carries pass the port's length and check. -/
def FrameCarries.Statement (i : Instr) : Prop :=
  ∀ code f, linkParts i = some (code, f) → Machine.frameAccepted (Machine.bytesBits (Machine.frameBytes code f)) = true

/-- It holds of a row because the check byte is written from the eleven bytes before it. -/
theorem frameCarries (i : Instr) : FrameCarries.Statement i :=
  fun code f _ => Machine.frameAccepted_frameBytes code f

theorem FrameCarries.openDraft (f : Frame) : FrameCarries.Statement (.openDraft f) := frameCarries _
theorem FrameCarries.discardDraft (f : Frame) : FrameCarries.Statement (.discardDraft f) := frameCarries _
theorem FrameCarries.commit (f : Frame) : FrameCarries.Statement (.commit f) := frameCarries _
theorem FrameCarries.retire (f : Frame) : FrameCarries.Statement (.retire f) := frameCarries _
theorem FrameCarries.readTableMap (f : Frame) : FrameCarries.Statement (.readTableMap f) := frameCarries _
theorem FrameCarries.readProfile (f : Frame) : FrameCarries.Statement (.readProfile f) := frameCarries _
theorem FrameCarries.clearWithheld (f : Frame) : FrameCarries.Statement (.clearWithheld f) := frameCarries _
theorem FrameCarries.setPhase (f : Frame) : FrameCarries.Statement (.setPhase f) := frameCarries _
theorem FrameCarries.insertPhase (f : Frame) : FrameCarries.Statement (.insertPhase f) := frameCarries _
theorem FrameCarries.deletePhase (f : Frame) : FrameCarries.Statement (.deletePhase f) := frameCarries _
theorem FrameCarries.setFields (f : Frame) : FrameCarries.Statement (.setFields f) := frameCarries _
theorem FrameCarries.readPhase (f : Frame) : FrameCarries.Statement (.readPhase f) := frameCarries _
theorem FrameCarries.readPool (f : Frame) : FrameCarries.Statement (.readPool f) := frameCarries _
theorem FrameCarries.checkDraft (f : Frame) : FrameCarries.Statement (.checkDraft f) := frameCarries _
theorem FrameCarries.bind (f : Frame) : FrameCarries.Statement (.bind f) := frameCarries _
theorem FrameCarries.unbind (f : Frame) : FrameCarries.Statement (.unbind f) := frameCarries _
theorem FrameCarries.setChannel (f : Frame) : FrameCarries.Statement (.setChannel f) := frameCarries _
theorem FrameCarries.readChannel (f : Frame) : FrameCarries.Statement (.readChannel f) := frameCarries _
theorem FrameCarries.actuate (f : Frame) : FrameCarries.Statement (.actuate f) := frameCarries _
theorem FrameCarries.release (f : Frame) : FrameCarries.Statement (.release f) := frameCarries _
theorem FrameCarries.readOutcome (f : Frame) : FrameCarries.Statement (.readOutcome f) := frameCarries _
theorem FrameCarries.readFaults (f : Frame) : FrameCarries.Statement (.readFaults f) := frameCarries _
theorem FrameCarries.clearFaults (f : Frame) : FrameCarries.Statement (.clearFaults f) := frameCarries _
theorem FrameCarries.setFaultMask (f : Frame) : FrameCarries.Statement (.setFaultMask f) := frameCarries _
theorem FrameCarries.arm (f : Frame) : FrameCarries.Statement (.arm f) := frameCarries _
theorem FrameCarries.disarm (f : Frame) : FrameCarries.Statement (.disarm f) := frameCarries _
theorem FrameCarries.safeStop (f : Frame) : FrameCarries.Statement (.safeStop f) := frameCarries _
theorem FrameCarries.leaveSafe (f : Frame) : FrameCarries.Statement (.leaveSafe f) := frameCarries _
theorem FrameCarries.softReset (f : Frame) : FrameCarries.Statement (.softReset f) := frameCarries _
theorem FrameCarries.storeOpen (f : Frame) : FrameCarries.Statement (.storeOpen f) := frameCarries _
theorem FrameCarries.storeClose (f : Frame) : FrameCarries.Statement (.storeClose f) := frameCarries _
theorem FrameCarries.storeWriteProfile (f : Frame) : FrameCarries.Statement (.storeWriteProfile f) := frameCarries _
theorem FrameCarries.storeWriteMap (f : Frame) : FrameCarries.Statement (.storeWriteMap f) := frameCarries _
theorem FrameCarries.storeLock (f : Frame) : FrameCarries.Statement (.storeLock f) := frameCarries _
theorem FrameCarries.storeQuery (f : Frame) : FrameCarries.Statement (.storeQuery f) := frameCarries _
theorem FrameCarries.nop (f : Frame) : FrameCarries.Statement (.nop f) := frameCarries _
theorem FrameCarries.unknownCommand (code : Byte) (f : Frame) : FrameCarries.Statement (.unknownCommand code f) := frameCarries _
theorem FrameCarries.frameBegin : FrameCarries.Statement .frameBegin := frameCarries _
theorem FrameCarries.frameRejected (bits : List Bool) : FrameCarries.Statement (.frameRejected bits) := frameCarries _
theorem FrameCarries.ctlAsserted (ch : ChannelId) : FrameCarries.Statement (.ctlAsserted ch) := frameCarries _
theorem FrameCarries.ctlDeasserted (ch : ChannelId) : FrameCarries.Statement (.ctlDeasserted ch) := frameCarries _
theorem FrameCarries.nsafeAsserted : FrameCarries.Statement .nsafeAsserted := frameCarries _
theorem FrameCarries.nsafeDeasserted : FrameCarries.Statement .nsafeDeasserted := frameCarries _
theorem FrameCarries.fullReset (cause : ResetCause) : FrameCarries.Statement (.fullReset cause) := frameCarries _
theorem FrameCarries.fullResetEnd (vdd : Nat) (nResetHigh : Bool) : FrameCarries.Statement (.fullResetEnd vdd nResetHigh) := frameCarries _
theorem FrameCarries.loadProfileSlot : FrameCarries.Statement .loadProfileSlot := frameCarries _
theorem FrameCarries.loadMapSlot : FrameCarries.Statement .loadMapSlot := frameCarries _
theorem FrameCarries.loadLockSlot : FrameCarries.Statement .loadLockSlot := frameCarries _
theorem FrameCarries.uvmOnset (vs : Nat) : FrameCarries.Statement (.uvmOnset vs) := frameCarries _
theorem FrameCarries.uvmClears (vs : Nat) : FrameCarries.Statement (.uvmClears vs) := frameCarries _
theorem FrameCarries.ovtOnset (temp : Int) : FrameCarries.Statement (.ovtOnset temp) := frameCarries _
theorem FrameCarries.ovtClears (temp : Int) : FrameCarries.Statement (.ovtClears temp) := frameCarries _
theorem FrameCarries.progOkTrue (vs : Nat) : FrameCarries.Statement (.progOkTrue vs) := frameCarries _
theorem FrameCarries.progOkFalse (vs : Nat) : FrameCarries.Statement (.progOkFalse vs) := frameCarries _
theorem FrameCarries.storeWriteComplete : FrameCarries.Statement .storeWriteComplete := frameCarries _
theorem FrameCarries.regulationPeriod (p : Period) : FrameCarries.Statement (.regulationPeriod p) := frameCarries _
theorem FrameCarries.phaseEnd (ch : ChannelId) : FrameCarries.Statement (.phaseEnd ch) := frameCarries _
theorem FrameCarries.holdExpired (ch : ChannelId) : FrameCarries.Statement (.holdExpired ch) := frameCarries _
theorem FrameCarries.minOnReached (ch : ChannelId) : FrameCarries.Statement (.minOnReached ch) := frameCarries _
theorem FrameCarries.dipConfirmed (ch : ChannelId) : FrameCarries.Statement (.dipConfirmed ch) := frameCarries _
theorem FrameCarries.resistanceSample (ch : ChannelId) : FrameCarries.Statement (.resistanceSample ch) := frameCarries _
theorem FrameCarries.openLoadLatchSet (ch : ChannelId) : FrameCarries.Statement (.openLoadLatchSet ch) := frameCarries _
theorem FrameCarries.overcurrentTrip (ch : ChannelId) : FrameCarries.Statement (.overcurrentTrip ch) := frameCarries _
theorem FrameCarries.stretchExpired : FrameCarries.Statement .stretchExpired := frameCarries _

end Sys2Proof.Laws
end

