-- ==== Sys2Proof/Tests/Slice0.lean ====
section
/-! SUPPORT. Tests of the model: a refused term for each check of WellFormed, the manual's worked examples, and for each
obligation of Certificates/Slice0/Obligations.lean states and operands that meet its hypotheses, clause by clause. -/

namespace Sys2Proof.Tests

open Sys2Proof.Machine

-- one test after another, so that no two are checked at once
set_option Elab.async false

/-! ### Small states -/

/-- The state a step or a command answers. -/
def after : Out → State
  | .next s => s
  | .fault f => nomatch f
  | .refused _ => State.reset

/-- The part in a mode after its load, at 24 V and with a frame open. -/
def part (m : PartMode) : State :=
  { State.reset with
    monitor := { vs := 2400, temp := 25, uvm := false, ovt := false, progOk := true }
    modes := { mode := m, nsafeSeen := .deasserted, nsafeRemembered := false }
    loader := { State.reset.loader with next := 34 }
    link := { State.reset.link with frameOpen := true } }

def entry (kind : PhaseKind) (level duration : Nat) : PhaseEntry :=
  { kind := kind, level := level, duration := duration, start := none, hit := false, motion := false }

/-- The fields of the manual's 6.8. -/
def fields : Fields :=
  { minOn := 200, holdCap := 600, hitTolerance := 5, dipThreshold := some 20, dipPersistence := 4
    travelWindow := some { lo := 40, hi := 80 }, resistanceWindow := some { lo := 80, hi := 140 }, failureThreshold := 3 }

/-- The shape of the manual's 6.8. -/
def valve : Shape :=
  { energize := [{ entry .holdCurrent 250 150 with hit := true, motion := true }, entry .holdCurrent 80 0]
    release := [entry .fastDecay 0 20], fields := fields }

/-- A ramp, a fixed duty and a coast, with no diagnostic mark. -/
def plain : Shape :=
  { energize := [{ entry .rampCurrent 200 20 with start := some 0 }, entry .driveDuty 100 10]
    release := [entry .coast 0 10, entry .fastDecay 0 10], fields := { Fields.default with minOn := 0 } }

/-- A shape with no release sequence. -/
def short : Shape := { energize := [entry .holdCurrent 60 0], release := [], fields := Fields.default }

/-- A profile with a live version of generation 1. -/
def lives (sh : Shape) (engaged bindings : Nat) : Profile :=
  { Profile.empty with live := some { gen := 1, shape := sh, engaged := engaged }, highWater := 1, bindingCount := bindings }

/-- The part with P1 live in a shape. -/
def taught (m : PartMode) (sh : Shape) : State :=
  { (part m).setProfile 0 (lives sh 0 0) with free := 160 - sh.size }

/-- The part with CH0 bound to P1, and READY. -/
def bound (m : PartMode) (sh : Shape) : State :=
  ((taught m sh).setProfile 0 (lives sh 0 1)).setChannel 0
    { Channel.reset with binding := some 0, trigger := .either, edgeArmed := true, ctlSeen := .deasserted }

/-- An actuation of P1's generation 1. -/
def actuation (origin : Origin) (q : Seq) (pos time phaseTime : Nat) : Actuation :=
  { startedActuation 0 1 origin 0 with
    seq := q, pos := pos, time := time, phaseTime := phaseTime
    noted := match q with | .energize => none | .release => some .releasedPin }

/-- CH0 running an actuation of P1. -/
def runs (m : PartMode) (sh : Shape) (a : Actuation) : State :=
  ((bound m sh).setProfile 0 (lives sh 1 1)).setChannel 0
    { (bound m sh).channel 0 with edgeArmed := false, ctlSeen := .asserted, running := some a }

/-- An actuation of the valve one period before min_on, and at it. -/
def early : Actuation := actuation .pin .energize 1 399 99
def late : Actuation := actuation .pin .energize 1 400 100

/-- CH0 drives on P1's generation 1 in ARMED, at min_on. -/
def driving : State := runs .armed valve late

theorem bindings_driving : BindingsCounted driving := by
  refine ⟨by decide +kernel, ?_, nofun⟩
  show ∀ ch, ∀ p ∈ (driving.channel ch).binding, (driving.profile p).live.isSome = true
  decide +kernel

theorem engagements_driving : EngagementsCounted driving := by
  refine ⟨?_, ?_, ?_⟩
  · show ∀ p, ∀ v ∈ (driving.profile p).live, v.engaged = driving.engagedTo p v.gen ∧ v.gen ≤ (driving.profile p).highWater
    decide +kernel
  · intro p v h
    have : (driving.profile p).draining = none := by clear h; revert p; decide +kernel
    rw [this] at h; cases h
  · intro ch a h
    have hc : ch = 0 ∨ (driving.channel ch).running = none := by clear h; revert ch; decide +kernel
    rcases hc with rfl | hc
    · have : (driving.channel 0).running = some late := by decide +kernel
      rw [this] at h
      cases h
      exact ⟨by decide +kernel, .inl ⟨{ gen := 1, shape := valve, engaged := 1 }, by decide +kernel, rfl⟩⟩
    · rw [hc] at h; cases h

theorem accounted_driving : TableAccounted driving := ⟨bindings_driving, engagements_driving⟩

/-- CH1 drives beside CH0 on the same version, one period before min_on. -/
def both : State :=
  (driving.setProfile 0 (lives valve 2 2)).setChannel 1 { driving.channel 0 with running := some early }

/-- What the rows of what is due to CH0 leave. -/
def settled (s : State) : State := (dueRows 0).foldl (fun s i => after (exec i s)) s

theorem runs_settled (s : State) : s.Runs (settled s) (dueRows 0) :=
  ⟨_, rfl, _, rfl, _, rfl, _, rfl, _, rfl, rfl⟩

/-- Whether the port hands a command to its owner. -/
def admitted (s : State) (c : Command) (f : Frame) : Bool :=
  !s.inFullReset && s.link.frameOpen && decide (s.modes.mode ≠ .loading) && reservedClear c f && s.modes.mode.accepts c

/-- It is what the statements ask of a state. -/
theorem admits_of_admitted {s : State} {c : Command} {f : Frame} (h : admitted s c f = true) : s.admits c f := by
  simp only [admitted, Bool.and_eq_true, decide_eq_true_eq, Bool.not_eq_true'] at h
  exact ⟨h.1.1.1.1, h.1.1.1.2, h.1.1.2, h.1.2, h.2⟩

/-- The part in LOADING with the loader at a slot. -/
def loadsAt (next : Nat) : State := { part .loading with loader := { (part .loading).loader with next := next } }

/-- A state whose array has one copy written. -/
def stored (s : State) (slot : Slot) (c : CopyContent) : State :=
  { s with store := s.store.setCell slot 1 (.written c (checkWord c)) }

/-- A state with a write in flight into copy 1 of P1's slot. -/
def writes (s : State) (remaining : Nat) : State :=
  { s with
    store := { (s.store.setCell 0 1 .partlyWritten).setCopyState 0 1 .spoiled with
      session := .isOpen
      inFlight := some { slot := 0, copy := 1, snapshot := .profile 0 1 valve, remaining := remaining } } }

def opened (s : State) : State := { s with store := { s.store with session := .isOpen } }

def period (sensed : Nat) (outOfBand : Bool) : PeriodReport :=
  { sensed := sensed, duty := 72, outOfBand := outOfBand, ctl := .asserted }

/-! ### WellFormed refuses an ill-formed term of each check -/

theorem test_wf_unknown_code_is_no_command : (Instr.unknownCommand 1 {}).wellFormed = false := by decide
theorem test_wf_rejected_frame_fails :
    (Instr.frameRejected (bytesBits (frameBytes 1 {}))).wellFormed = false := by decide +kernel
theorem test_wf_full_reset_vdd : (Instr.fullReset (.vdd 250)).wellFormed = false := by decide
theorem test_wf_full_reset_end_vdd : (Instr.fullResetEnd 249 true).wellFormed = false := by decide
theorem test_wf_full_reset_end_line : (Instr.fullResetEnd 250 false).wellFormed = false := by decide
theorem test_wf_uvm_onset : (Instr.uvmOnset 600).wellFormed = false := by decide
theorem test_wf_uvm_clears : (Instr.uvmClears 650).wellFormed = false := by decide
theorem test_wf_ovt_onset : (Instr.ovtOnset 164).wellFormed = false := by decide
theorem test_wf_ovt_clears : (Instr.ovtClears 145).wellFormed = false := by decide
theorem test_wf_prog_ok_true : (Instr.progOkTrue 1099).wellFormed = false := by decide
theorem test_wf_prog_ok_false : (Instr.progOkFalse 1050).wellFormed = false := by decide

/-! ### Frames and checks: values worked by hand from R186 and R167 -/

/-- The CRC-8 of a NOP frame with tag 0, bytes 0 to 10: 01 and ten zeros, from the register 0xFF (R186). -/
theorem test_nop_frame_check : frameBytes 1 {} = [1, 0, 0, 0, 0, 0, 0, 0, 0, 0, 0, 220] := by decide +kernel

/-- An OPEN_DRAFT of P3 with tag 5, its bits written out byte by byte: 10 05 03, zeros, and the check byte (12.1, 12.5). -/
theorem test_open_draft_frame_decodes :
    decodeFrame
      ([false, false, false, true, false, false, false, false] ++ [false, false, false, false, false, true, false, true] ++
        [false, false, false, false, false, false, true, true] ++ List.replicate 64 false ++ [false, true, true, true, false, false, false, false]) =
      .openDraft { b1 := 5, b2 := 3 } := by decide +kernel

/-- A frame whose code is none of the 36 is read as UNKNOWN_COMMAND (R188). -/
theorem test_unknown_code_decodes :
    decodeFrame (bytesBits (frameBytes 2 { b1 := 1 })) = .unknownCommand 2 { b1 := 1 } := by decide +kernel

theorem test_short_frame_decodes : decodeFrame [true] = .frameRejected [true] := by decide +kernel

/-! ### The manual's worked examples, one step each -/

/-- What a command's reply carries. -/
def replyOf (i : Instr) (s : State) : ResultCode × Byte × Byte × Byte :=
  let r := (after (exec i s)).link.prepared
  (r.result, r.data.b4, r.data.b5, r.data.b6)

/-- P3's live shape at the start of 2.8. -/
def revised : Shape :=
  { energize :=
      [{ entry .rampCurrent 180 20 with start := some 0, hit := true }, { entry .holdCurrent 150 100 with motion := true },
        entry .holdCurrent 60 0]
    release := [entry .fastDecay 0 10, entry .coast 0 20], fields := Fields.default }

/-- P3 LIVE with generation 2 and an optional draft, and a free count, as in 2.8. -/
def pool (draft : Option Shape) (free : Nat) : State :=
  { (part .standby).setProfile 2
      { Profile.empty with live := some { gen := 2, shape := revised, engaged := 0 }, draft := draft, highWater := 2 } with
    free := free }

/-- 2.8, step 2: the copy takes five entries of seven. -/
theorem test_open_draft : replyOf (.openDraft { b2 := 3 }) (pool none 7) = (.ok, 5, 2, 0) ∧
    ((after (exec (.openDraft { b2 := 3 }) (pool none 7))).profile 2).draft = some revised := by decide +kernel

/-- 2.8, step 5: a copy that does not fit is refused. -/
theorem test_open_draft_pool_full : replyOf (.openDraft { b2 := 3 }) (pool none 4) = (.poolFull, 0, 0, 0) := by decide +kernel

/-- 2.8, step 3: the entry placed at energize position 1. -/
theorem test_insert_phase :
    replyOf (.insertPhase { b2 := 3, b3 := 1, b4 := 2, b6 := 180, b8 := 15 }) (pool (some revised) 2) = (.ok, 4, 1, 0) ∧
    ((after (exec (.insertPhase { b2 := 3, b3 := 1, b4 := 2, b6 := 180, b8 := 15 }) (pool (some revised) 2))).profile 2).draft.map
        (fun d => d.energize.map fun e => e.level) = some [180, 180, 150, 60] := by decide +kernel

/-- 2.8, step 4: a full release sequence refuses before the pool is asked. -/
theorem test_insert_phase_seq_full :
    replyOf (.insertPhase { b2 := 3, b3 := 0x42, b4 := 5, b8 := 15 }) (pool (some revised) 0) = (.seqFull, 0, 0, 0) := by
  decide +kernel

/-- 2.8, step 9: the COAST entry removed and freed. -/
theorem test_delete_phase :
    replyOf (.deletePhase { b2 := 3, b3 := 0x41 }) (pool (some revised) 4) = (.ok, 1, 5, 0) ∧
    ((after (exec (.deletePhase { b2 := 3, b3 := 0x41 }) (pool (some revised) 4))).profile 2).draft.map
        (fun d => d.release) = some [entry .fastDecay 0 10] := by decide +kernel

/-- 2.8, step 11: five entries freed here. -/
theorem test_discard_draft : replyOf (.discardDraft { b2 := 3 }) (pool (some revised) 2) = (.ok, 5, 7, 0) := by decide +kernel

/-- 3.9 and 2.8, step 12: the draft becomes generation 3; P3's dip threshold is absent, so a MOTION mark fails A7 (R54). -/
theorem test_commit_refuses_motion_without_threshold :
    replyOf (.commit { b2 := 3 }) (pool (some revised) 4) = (.checkFailed, 7, 0x81, 0) := by decide +kernel

theorem test_commit :
    replyOf (.commit { b2 := 3 }) (pool (some valve) 4) = (.ok, 0, 3, 0) ∧
    (after (exec (.commit { b2 := 3 }) (pool (some valve) 4))).free = 9 := by decide +kernel

/-- P11's draft as 3.9 begins with it, with its steps applied. -/
def checked (step : Nat) : Shape :=
  { energize :=
      [{ entry .rampCurrent 250 30 with start := if step < 4 then none else some 0, hit := true },
        { entry .holdCurrent 120 (if step < 2 then 0 else 200) with motion := true }, entry .holdCurrent 80 0]
    release := [entry .coast 0 (if step < 3 then 0 else 20)]
    fields := { Fields.default with
      dipThreshold := some 15, travelWindow := some (if step < 5 then { lo := 400, hi := 200 } else { lo := 200, hi := 400 }) } }

/-- 3.9, steps 1 to 5: the check and the position that each run reports. -/
theorem test_check_draft :
    ([1, 2, 3, 4, 5].map fun n => replyOf (.checkDraft { b2 := 3 }) (pool (some (checked n)) 0)) =
      [(.checkFailed, 3, 0x81, 0), (.checkFailed, 3, 0xC0, 0), (.checkFailed, 5, 0x80, 0), (.checkFailed, 8, 0, 0),
        (.ok, 0, 0, 0)] := by decide +kernel

/-- 3.9, step 2: the hold rewritten with 20 ms, its mark kept. -/
theorem test_set_phase :
    ((after (exec (.setPhase { b2 := 3, b3 := 1, b4 := 0x42, b6 := 120, b8 := 200 }) (pool (some (checked 1)) 0))).profile 2).draft =
      some (checked 2) := by decide +kernel

/-- 3.9, step 5: the MOTION group replaced. -/
theorem test_set_fields :
    ((after (exec (.setFields { b2 := 3, b3 := 4, b4 := 0x8F, b5 := 0x84, b7 := 200, b8 := 1, b9 := 144 })
      (pool (some (checked 4)) 0))).profile 2).draft = some (checked 5) := by decide +kernel

/-- R18: a bound profile is not retired. -/
theorem test_retire_in_use : replyOf (.retire { b2 := 1 }) (bound .standby valve) = (.inUse, 0, 0, 0) := by decide +kernel
theorem test_retire : replyOf (.retire { b2 := 3 }) (pool (some valve) 2) = (.ok, 8, 10, 0) := by decide +kernel

/-- R19: P3 is the member of the set, bit 2 of b7. -/
theorem test_read_table_map :
    (after (exec (.readTableMap { b2 := 1 }) (pool none 7))).link.prepared.data = { b7 := 4 } := by decide +kernel

/-- R20: the SHAPE group of P3's live version. -/
theorem test_read_profile :
    (after (exec (.readProfile { b2 := 3, b3 := 1, b4 := 2 }) (pool none 7))).link.prepared.data =
      { b4 := 0, b5 := 2, b6 := 0, b7 := 3, b8 := 2 } := by decide +kernel

/-- R41: the ramp of 2.8, with its HIT mark, the count 3 and its start level of 0 present. -/
theorem test_read_phase :
    (after (exec (.readPhase { b2 := 3, b3 := 1, b4 := 0 }) (pool none 7))).link.prepared.data =
      { b4 := 0x80 + 3 * 8 + 1, b5 := 0, b6 := 180, b7 := 0, b8 := 20, b9 := 0x80, b10 := 0 } := by decide +kernel

theorem test_read_pool : replyOf (.readPool {}) (pool (some valve) 152) = (.ok, 152, 5, 3) := by decide +kernel

/-- R131: the run and the flag as they stood. -/
theorem test_clear_withheld :
    replyOf (.clearWithheld { b2 := 3 }) ((pool none 7).setProfile 2 { (pool none 7).profile 2 with failureRun := 4, withheld := true }) =
      (.ok, 4, 1, 0) := by decide +kernel

/-- R66: an UNBOUND channel becomes READY, and the count 1. -/
theorem test_bind : replyOf (.bind { b2 := 7, b3 := 1 }) (taught .standby valve) = (.ok, 1, 1, 0) := by decide +kernel
theorem test_unbind_driving :
    replyOf (.unbind { b2 := 0 }) (runs .armed valve (actuation .pin .energize 1 400 100)) = (.ok, 2, 0, 0) := by decide +kernel
theorem test_set_channel : replyOf (.setChannel { b2 := 0, b3 := 0x82 }) (bound .standby valve) = (.ok, 0x82, 0, 0) := by
  decide +kernel
theorem test_read_channel : replyOf (.readChannel { b2 := 0, b3 := 1 }) (bound .standby valve) = (.ok, 1, 0x23, 1) := by
  decide +kernel

/-- 11.8, frame A: the id and the generation of the version engaged. -/
theorem test_actuate :
    replyOf (.actuate { b2 := 0 }) (bound .armed valve) = (.ok, 1, 0, 1) ∧
    ((after (exec (.actuate { b2 := 0 }) (bound .armed valve))).channel 0).running =
      some (actuation .link .energize 0 0 0) := by decide +kernel

/-- 5.10, t = 250: already held, with 25 units remaining of a min_on of 150. -/
theorem test_release_already_held :
    replyOf (.release { b2 := 0 })
      (runs .armed { valve with fields := { fields with minOn := 150 } }
        { actuation .pin .energize 1 250 150 with heldFrom := some .pin, earlyHeld := true }) = (.ok, 3, 0, 25) := by decide +kernel

/-- 5.10, t = 310: NOT_ACTIVE on a RELEASING channel. -/
theorem test_release_not_active :
    replyOf (.release { b2 := 0 }) (runs .armed valve (actuation .pin .release 0 310 10)) = (.notActive, 0, 0, 0) := by
  decide +kernel

/-- 6.8, the end step: the record of an actuation that ends at t = 930. -/
def ended : State :=
  after (exec (.phaseEnd 0)
    ((runs .armed valve { actuation .pin .release 0 930 30 with noted := some .releasedPin }).setDiag 0
      { Diag.reset with
        search := .closed, peak := some 241, dipCount := 4, dipTime := some 183, dipPeak := some 241, valley := some 209
        motionFinding := .travelDrift, hit := .met, sample := some 84, resistance := .within }))

theorem test_phase_end_record :
    (ended.channel 0).outcome = some
      { number := 0, profile := 0, gen := 1, versionKind := .live, origin := .pin, cause := .releasedPin
        findings := [.travelDrift], verdict := .flawed, duration := 465
        motion := some { travel := 91, peak := 241, valley := 209 }, resistance := some 84, previousUnread := false } ∧
    (ended.profile 0).failureRun = 1 := by decide +kernel

/-- 6.8: the summary of that record, unread before the read. -/
theorem test_read_outcome :
    (after (exec (.readOutcome { b2 := 0, b3 := 1 }) { ended with link := { ended.link with frameOpen := true } })).link.prepared.data =
      { flags := 6, nibble := 2, b4 := 0, b5 := 0, b6 := 1, b7 := 1, b8 := 209, b9 := 0, b10 := 0x50 } := by decide +kernel

/-- 5.10, t = 160: the deassertion before min_on is held. -/
theorem test_ctl_deasserted_holds :
    ((after (exec (.ctlDeasserted 0) (runs .armed valve (actuation .pin .energize 1 399 99)))).channel 0).running =
      some { actuation .pin .energize 1 399 99 with heldFrom := some .pin, earlyHeld := true } := by decide +kernel

/-- 6.8, t = 0: the assertion starts CH0, its search WAITING. -/
theorem test_ctl_asserted_starts :
    ((after (exec (.ctlAsserted 0) (bound .armed valve))).channel 0).running = some (actuation .pin .energize 0 0 0) ∧
    ((after (exec (.ctlAsserted 0) (bound .armed valve))).diag 0).search = .waiting := by decide +kernel

/-- 5.10, t = 300: min_on reached by a held release. -/
theorem test_min_on_reached :
    ((after (exec (.minOnReached 0)
      (runs .armed valve { actuation .pin .energize 1 400 100 with heldFrom := some .pin, earlyHeld := true }))).channel 0).running =
      some { actuation .pin .release 0 400 0 with earlyHeld := true } := by decide +kernel

/-- R90: 2000 periods for each 0.1 s of the cap. -/
theorem test_hold_expired :
    ((after (exec (.holdExpired 0) (runs .armed valve (actuation .pin .energize 1 1200300 1200000)))).channel 0).running =
      some { actuation .pin .release 0 1200300 0 with noted := some .holdExpired } := by decide +kernel

/-- 6.8, t = 183 to 189: the search period by period, and the confirmation at t = 186. -/
def searching (count : Nat) (start low : Option Nat) : Diag :=
  { Diag.reset with search := .searching, peak := some 241, dipCount := count, candStart := start, candLow := low }

theorem test_regulation_period_dip :
    ((after (exec (.regulationPeriod (.channel 0 (period 218 false)))
      ((runs .armed valve (actuation .pin .energize 0 182 182)).setDiag 0 (searching 0 none none)))).diag 0) =
      { searching 1 (some 183) (some 218) with supply := 2400 } := by decide +kernel

/-- R72, R74: a period that samples an assertion starts a READY channel, as its CTL row would. -/
theorem test_regulation_period_samples_line :
    ((after (exec (.regulationPeriod (.channel 0 (period 0 false))) (bound .armed valve))).channel 0).running =
      some (actuation .pin .energize 0 0 0) := by decide +kernel

/-- R86: the 20th of the 40 targets of the ramp of 5.10. -/
theorem test_regulation_period_ramp :
    ((after (exec (.regulationPeriod (.channel 0 (period 97 false))) (runs .armed plain (actuation .pin .energize 0 19 19)))).stage 0) =
      { mode := .regulate, target := 100, duty := 72, sensed := 97 } := by decide +kernel

theorem test_dip_confirmed :
    ((after (exec (.dipConfirmed 0)
      ((runs .armed valve (actuation .pin .energize 0 186 186)).setDiag 0 (searching 4 (some 183) (some 209))))).diag 0) =
      { searching 4 (some 183) (some 209) with
        search := .inDip, dipTime := some 183, dipPeak := some 241, valley := some 209 } := by decide +kernel

/-- 6.8, t = 700: 84.375 is kept as 84, within the window. -/
theorem test_resistance_sample :
    ((after (exec (.resistanceSample 0)
      (((runs .armed valve (actuation .pin .energize 1 700 400)).setStage 0
        { mode := .regulate, target := 80, duty := 72, sensed := 80 }).setDiag 0 { Diag.reset with supply := 2400 }))).diag 0) =
      { Diag.reset with sample := some 84, resistance := .within, supply := 2400 } := by decide +kernel

/-- R139: the sixth period latches. -/
theorem test_open_load_latch_set :
    ((after (exec (.openLoadLatchSet 0)
      (((bound .standby valve).setChannel 0 { (bound .standby valve).channel 0 with openLoadCheck := true }).setChFault 0
        { ChannelFault.reset with pull := .outOfBand, window := 6 }))).chFault 0) =
      { ChannelFault.reset with openLoad := true, pull := .outOfBand } := by decide +kernel

/-- R136: the trip ends the actuation FLAWED. -/
theorem test_overcurrent_trip :
    (((after (exec (.overcurrentTrip 0) (runs .armed valve (actuation .pin .energize 1 400 100)))).channel 0).outcome.map
      fun r => (r.cause, r.verdict)) = some (.overcurrent, .flawed) := by decide +kernel

/-- R148: FLAGS of a part with its COMM flag set, nFAULT asserted. -/
theorem test_read_faults :
    replyOf (.readFaults { b2 := 1 }) { part .standby with faults := { FaultUnit.reset with comm := true } } =
      (.ok, 0, 0, 0x14) := by decide +kernel

/-- 11.8, frame C: COMM is cleared. -/
theorem test_clear_faults :
    replyOf (.clearFaults { b2 := 255 }) { part .standby with faults := { FaultUnit.reset with comm := true } } =
      (.ok, 0, 0, 0) := by decide +kernel
theorem test_set_fault_mask : replyOf (.setFaultMask { b2 := 0x3F, b3 := 3 }) (part .standby) = (.ok, 0x3F, 3, 0) := by
  decide +kernel

/-- R158: the reasons of ARM, in order. -/
theorem test_arm_reasons :
    replyOf (.arm {}) (part .safe) = (.modeRefused, 1, 0, 0) ∧
    replyOf (.arm {}) { part .standby with monitor := { Monitor.reset with uvm := true } } = (.modeRefused, 2, 0, 0) ∧
    replyOf (.arm {}) (opened (part .standby)) = (.modeRefused, 3, 0, 0) := by decide +kernel
theorem test_arm : (after (exec (.arm {}) (part .standby))).modes.mode = .armed := by decide +kernel
theorem test_disarm :
    replyOf (.disarm {}) (runs .armed valve (actuation .pin .energize 1 300 0)) = (.ok, 1, 0, 0) := by decide +kernel
theorem test_disarm_both :
    (((after (exec (.disarm {}) both)).channel 1).running, ((after (exec (.disarm {}) both)).channel 0).running) =
      (some { early with heldFrom := some .disarm, earlyHeld := true },
        some { actuation .pin .release 0 400 0 with noted := some .disarmed }) := by decide +kernel
theorem test_safe_stop :
    (after (exec (.safeStop {}) (runs .armed valve (actuation .pin .energize 1 300 0)))).modes.mode = .safe := by decide +kernel
theorem test_leave_safe : (after (exec (.leaveSafe {}) (part .safe))).modes.mode = .standby := by decide +kernel
theorem test_soft_reset :
    ((after (exec (.softReset {}) (pool (some valve) 2))).free, (after (exec (.softReset {}) (pool (some valve) 2))).modes.mode) =
      (5, .standby) := by decide +kernel

theorem test_store_open : replyOf (.storeOpen {}) (part .standby) = (.ok, 1, 0, 0) := by decide +kernel
theorem test_store_close : replyOf (.storeClose {}) (part .standby) = (.storeClosed, 0, 0, 0) := by decide +kernel
theorem test_store_write_profile :
    replyOf (.storeWriteProfile { b2 := 1 }) (opened (taught .standby valve)) = (.accepted, 1, 0, 1) := by decide +kernel
theorem test_store_write_map : replyOf (.storeWriteMap { b2 := 1 }) (opened (part .standby)) = (.accepted, 1, 0, 0) := by
  decide +kernel
theorem test_store_lock : replyOf (.storeLock {}) (opened (part .standby)) = (.accepted, 1, 0, 0) := by decide +kernel
theorem test_store_write_complete :
    ((after (exec .storeWriteComplete (writes (part .standby) 0))).store.states 0) = [.valid, .blank, .blank] := by decide +kernel

/-- R178: a write in flight into copy 1 of P1's slot, an OPEN session. -/
theorem test_store_query :
    (after (exec (.storeQuery { b2 := 1 }) (writes (part .standby) 60))).link.prepared.data =
      { b4 := 2, b7 := 6, b8 := 1, b9 := 1 } := by decide +kernel

theorem test_nop : replyOf (.nop { b1 := 2 }) (part .armed) = (.ok, 0, 0, 0) := by decide +kernel
theorem test_unknown_command : replyOf (.unknownCommand 2 {}) (part .armed) = (.unknownCommand, 0, 0, 0) := by decide +kernel

/-- 11.8, the noise frame: 16 bits, SHORT, two whole bytes. -/
theorem test_frame_rejected :
    (after (exec (.frameRejected (List.replicate 16 false)) (part .armed))).link.prepared =
      { result := .frameRejected, code := 0, tag := none, data := { b4 := 1, b5 := 2 } } := by decide +kernel

/-- R192: the first reply after a full reset is NO_PRIOR, with the status byte before it. -/
theorem test_frame_begin :
    (after (exec .frameBegin State.reset)).link.transmit.toList.take 4 = [0, 3, 0, 0] := by decide +kernel

/-- R184: the bits of NO_PRIOR, 3, are the 15th and the 16th of the reply. -/
theorem test_sdo_shifts :
    [0, 13, 14, 15, 16, 96].map (fun n =>
      ((List.replicate n false).foldl (fun l bit => (l.sckRises bit).sckFalls) (after (exec .frameBegin State.reset)).link).sdo) =
      [some false, some false, some true, some true, some false, some false] := by decide +kernel

theorem test_nsafe_asserted : (after (exec .nsafeAsserted (part .armed))).modes.mode = .safe := by decide +kernel
/-- R155: a period that samples the line asserted enters SAFE. -/
theorem test_regulation_period_samples_nsafe :
    (after (exec (.regulationPeriod (.shared 2400 330 25 .asserted)) driving)).modes.mode = .safe := by decide +kernel
theorem test_nsafe_deasserted : (after (exec .nsafeDeasserted (part .safe))).modes.mode = .safe := by decide +kernel
theorem test_full_reset : (after (exec (.fullReset .nReset) (part .armed))).inFullReset = true := by decide +kernel
theorem test_full_reset_end :
    (after (exec (.fullResetEnd 330 true) { State.reset with inFullReset := true })).inFullReset = false := by decide +kernel
theorem test_load_profile_slot :
    ((after (exec .loadProfileSlot (stored (loadsAt 0) 0 (.profile 0 7 valve)))).profile 0).live =
      some { gen := 7, shape := valve, engaged := 0 } := by decide +kernel
theorem test_load_map_slot : (after (exec .loadMapSlot (loadsAt 32))).loader.next = 33 := by decide +kernel
/-- A map that binds CH0 to P1, with arm-at-start. -/
def map : CopyContent :=
  .map (Vector.ofFn fun ch => { binding := if ch = 0 then some 0 else none, trigger := .either, openLoadCheck := true }) true

/-- The loader at the map slot, P1 loaded before and CH0 to be bound to it. -/
def mapLoads : State :=
  stored { loadsAt 32 with
    loader := { (loadsAt 32).loader with loaded := (Vector.replicate 32 false).set 0 true }
    profiles := (taught .loading valve).profiles } 32 map

/-- R180: the binding, its count, and the arm-at-start. -/
theorem test_load_map_binds :
    (((after (exec .loadMapSlot mapLoads)).channel 0).binding, ((after (exec .loadMapSlot mapLoads)).profile 0).bindingCount,
      (after (exec .loadMapSlot mapLoads)).loader.request) = (some 0, 1, .armAtStart) := by decide +kernel

/-- R179: of two valid copies the higher-numbered is loaded. -/
theorem test_load_highest_copy :
    (let s := stored (loadsAt 0) 0 (.profile 0 7 valve)
     let c := CopyContent.profile 0 8 short
     ((after (exec .loadProfileSlot { s with store := s.store.setCell 0 2 (.written c (checkWord c)) })).profile 0).live) =
      some { gen := 8, shape := short, engaged := 0 } := by decide +kernel

theorem test_load_lock_slot :
    ((after (exec .loadLockSlot (stored (loadsAt 33) 33 .lockMark))).store.locked,
      (after (exec .loadLockSlot (stored (loadsAt 33) 33 .lockMark))).modes.mode) = (true, .standby) := by decide +kernel

theorem test_uvm_onset : (after (exec (.uvmOnset 599) (part .armed))).modes.mode = .suspended := by decide +kernel
theorem test_uvm_clears :
    (after (exec (.uvmClears 651) { part .suspended with monitor := { Monitor.reset with uvm := true } })).modes.mode = .armed := by
  decide +kernel
theorem test_ovt_onset : (after (exec (.ovtOnset 165) (part .standby))).faults.ovt = true := by decide +kernel
theorem test_ovt_clears :
    (after (exec (.ovtClears 144) { part .suspended with monitor := { Monitor.reset with ovt := true } })).modes.mode = .armed := by
  decide +kernel
theorem test_prog_ok_true : (after (exec (.progOkTrue 1100) State.reset)).monitor.progOk = true := by decide +kernel
theorem test_prog_ok_false :
    (after (exec (.progOkFalse 1049) (writes (part .standby) 30))).store.lastResult = .abandoned 0 1 := by decide +kernel
theorem test_stretch_expired :
    (after (exec .stretchExpired { part .standby with faults := { FaultUnit.reset with timer := some 0 } })).faults.timer = none := by
  decide +kernel

/-- A step takes the front of the queue and leaves the rest. -/
theorem test_step_takes_the_front :
    (after (step { part .armed with pending := [.nop {}, .frameBegin] })).pending = [.frameBegin] := by decide +kernel

/-! ### What meets the hypotheses of each obligation, clause by clause -/

/-- The part in full reset. -/
def held : State := { State.reset with inFullReset := true }

theorem witness_StepRunsFrontCommand : State.reset.pending = [] := rfl

theorem witness_FullResetRestoresEveryBlock :
    (∀ vdd, ResetCause.powerOn = .vdd vdd → vdd < 250) ∧ (∀ vdd, ResetCause.nReset = .vdd vdd → vdd < 250) ∧
      ∀ vdd, ResetCause.vdd 249 = .vdd vdd → vdd < 250 :=
  ⟨nofun, nofun, fun vdd h => by injection h with h; omega⟩

theorem witness_FullResetHoldsUntilItsEnd :
    250 ≤ 250 ∧ (249 < 250 ∨ true = false) ∧ (250 < 250 ∨ false = false) ∧ held.inFullReset = true ∧
      (∀ c, Instr.frameBegin ≠ .fullReset c) ∧ ∀ v h, Instr.frameBegin ≠ .fullResetEnd v h :=
  ⟨Nat.le_refl 250, .inl (by decide), .inr rfl, rfl, nofun, nofun⟩

theorem witness_FrameBeginLoadsReply :
    State.reset.inFullReset = false ∧ State.reset.link.frameOpen = false ∧
      (part .armed).inFullReset = false ∧ (part .armed).link.frameOpen = true := by decide +kernel

theorem witness_StatusByteShowsItsSources : State.reset.inFullReset = false ∧ held.inFullReset = true := by decide +kernel

/-- A frame of 96 zeros, whose check byte should be the CRC of eleven zeros. -/
theorem witness_FrameRejectedForItsLengthOrCheck :
    (part .armed).inFullReset = false ∧ (part .armed).link.frameOpen = true ∧ ([] : List Bool).length ≠ 96 ∧
      frameAccepted [] = false ∧ (List.replicate 95 true).length ≠ 96 ∧ frameAccepted (List.replicate 95 true) = false ∧
      (List.replicate 97 true).length ≠ 96 ∧ frameAccepted (List.replicate 97 true) = false ∧
      (List.replicate 96 false).length = 96 ∧ frameAccepted (List.replicate 96 false) = false ∧
      (bytesBits (frameBytes 1 {})).length = 96 ∧ frameAccepted (bytesBits (frameBytes 1 {})) = true := by decide +kernel

theorem witness_UnknownCommandAnswered :
    commandOfCode 0 = none ∧ commandOfCode 2 = none ∧ commandOfCode 102 = none ∧ commandOfCode 255 = none ∧
      (part .armed).inFullReset = false ∧ (part .armed).link.frameOpen = true ∧
      (part .loading).inFullReset = false ∧ (part .loading).link.frameOpen = true := by decide +kernel

theorem witness_NopChangesNothing :
    (part .safe).inFullReset = false ∧ (part .safe).link.frameOpen = true ∧ (part .safe).modes.mode ≠ .loading ∧
      ({ b1 := 15 } : Frame).b1.toNat < 16 ∧
      (let f : Frame := { b1 := 15 }; [f.b2, f.b3, f.b4, f.b5, f.b6, f.b7, f.b8, f.b9, f.b10] = List.replicate 9 0) ∧
      (let f : Frame := { b10 := 1 }; [f.b2, f.b3, f.b4, f.b5, f.b6, f.b7, f.b8, f.b9, f.b10] ≠ List.replicate 9 0) := by
  decide +kernel

theorem witness_PortRefusesInOrder :
    (held.inFullReset = true ∨ held.link.frameOpen = false) ∧
      (State.reset.inFullReset = true ∨ State.reset.link.frameOpen = false) ∧
      ((part .loading).inFullReset = false ∧ (part .loading).link.frameOpen = true ∧ (part .loading).modes.mode = .loading) ∧
      ((part .standby).modes.mode ≠ .loading ∧ reservedClear .openDraft { b3 := 1 } = false ∧
        reservedClear .nop { b1 := 16 } = false) ∧
      (reservedClear .actuate {} = true ∧ (part .standby).modes.mode ≠ .armed) ∧
      (reservedClear .disarm {} = true ∧ (part .safe).modes.mode = .safe) ∧
      (reservedClear .leaveSafe {} = true ∧ (part .armed).modes.mode ≠ .safe) ∧
      (reservedClear .storeOpen {} = true ∧ (part .armed).modes.mode ≠ .standby) ∧
      (reservedClear .setChannel { b3 := 0x83 } = true ∧ reservedClear .setChannel { b3 := 4 } = false) ∧
      (reservedClear .setFields { b3 := 6 } = true ∧ reservedClear .setFields { b3 := 6, b4 := 1 } = false) := by decide +kernel

theorem witness_FrameBitsDecodeToTheirCommand :
    ((Instr.commit { b1 := 15, b10 := 255 }).wellFormed = true ∧
        frameOf (.commit { b1 := 15, b10 := 255 }) = some (bytesBits (frameBytes 18 { b1 := 15, b10 := 255 }))) ∧
      ((Instr.unknownCommand 255 {}).wellFormed = true ∧
        frameOf (.unknownCommand 255 {}) = some (bytesBits (frameBytes 255 {}))) ∧
      (Instr.frameRejected []).wellFormed = true ∧ frameOf (.frameRejected []) = some [] := by decide +kernel

/-- The bits of a NOP frame. -/
def nopBits : List Bool := bytesBits (frameBytes 1 {})

/-- Two bits far apart changed, and a run of eight in which the first and the last are. -/
theorem witness_CheckByteDetectsChanges :
    (frameAccepted nopBits = true ∧ ((nopBits.set 0 true).set 95 true).length = nopBits.length ∧
        (nopBits.set 0 true).set 95 true ≠ nopBits ∧
        ∃ i j : Nat, ∀ n : Nat, n ≠ i → n ≠ j → ((nopBits.set 0 true).set 95 true)[n]? = nopBits[n]?) ∧
      (((nopBits.set 8 true).set 15 true).length = nopBits.length ∧ (nopBits.set 8 true).set 15 true ≠ nopBits ∧
        ∃ k : Nat, ∀ n : Nat, n < k ∨ k + 8 ≤ n → ((nopBits.set 8 true).set 15 true)[n]? = nopBits[n]?) := by
  refine ⟨⟨by decide +kernel, by decide +kernel, by decide +kernel, 0, 95, fun n h h' => ?_⟩, by decide +kernel,
    by decide +kernel, 8, fun n h => ?_⟩
  · rw [List.getElem?_set_ne (Ne.symm h'), List.getElem?_set_ne (Ne.symm h)]
  · rw [List.getElem?_set_ne (by omega), List.getElem?_set_ne (by omega)]

theorem witness_OutOfRangeIdIsBadTarget :
    (1 ≤ (1 : Byte).toNat ∧ (1 : Byte).toNat ≤ 32) ∧ (1 ≤ (32 : Byte).toNat ∧ (32 : Byte).toNat ≤ 32) ∧
      (admitted (part .standby) .openDraft {} ∧ ({} : Frame).b2.toNat = 0) ∧
      (admitted (part .standby) .commit { b2 := 33 } ∧ 33 ≤ ({ b2 := 33 } : Frame).b2.toNat) ∧
      (admitted (part .standby) .setFields { b2 := 255, b3 := 3 } ∧ 33 ≤ ({ b2 := 255 } : Frame).b2.toNat) ∧
      admitted (part .standby) .bind { b3 := 33 } ∧ 33 ≤ ({ b3 := 33 } : Frame).b3.toNat := by
  decide +kernel

theorem witness_OpenDraftOpensOrRefuses :
    (admitted (pool (some valve) 0) .openDraft { b2 := 3 } ∧ ((pool (some valve) 0).profile 2).draft.isSome = true) ∧
      (admitted (part .standby) .openDraft { b2 := 32 } ∧ (32 : Byte).toNat = (31 : ProfileId).val + 1 ∧
        ((part .standby).profile 31).draft = none ∧ ((part .standby).profile 31).live = none) ∧
      (admitted (pool none 5) .openDraft { b2 := 3 } ∧ ((pool none 5).profile 2).draft = none ∧
        ((pool none 5).profile 2).live = some { gen := 2, shape := revised, engaged := 0 } ∧ revised.size ≤ (pool none 5).free) ∧
      (admitted (pool none 4) .openDraft { b2 := 3 } ∧ (pool none 4).free < revised.size) := by
  decide +kernel

theorem witness_DiscardRetireAndClearWithheld :
    (admitted (pool none 5) .discardDraft { b2 := 3 } ∧ ((pool none 5).profile 2).draft = none) ∧
      (admitted (pool (some valve) 5) .discardDraft { b2 := 3 } ∧ ((pool (some valve) 5).profile 2).draft = some valve) ∧
      (admitted (part .standby) .retire { b2 := 1 } ∧ ((part .standby).profile 0).live = none ∧
        ((part .standby).profile 0).draft = none) ∧
      (admitted (bound .standby valve) .retire { b2 := 1 } ∧ ((bound .standby valve).profile 0).live.isSome = true ∧
        ((bound .standby valve).profile 0).bindingCount ≠ 0) ∧
      (admitted (taught .standby valve) .retire { b2 := 1 } ∧ ((taught .standby valve).profile 0).live.isSome = true ∧
        ((taught .standby valve).profile 0).bindingCount = 0) ∧
      (admitted (part .standby) .clearWithheld { b2 := 1 } ∧ ((part .standby).profile 0).live = none) ∧
      admitted (taught .standby valve) .clearWithheld { b2 := 1 } := by
  decide +kernel

/-- P3 with a draft and its high-water mark, and perhaps a draining version. -/
def commits (draft : Shape) (highWater : Nat) (draining : Option Version) : State :=
  (pool none 9).setProfile 2
    { (pool none 9).profile 2 with draft := some draft, highWater := highWater, draining := draining }

theorem witness_CommitMakesDraftLiveOrRefuses :
    (admitted (pool none 5) .commit { b2 := 3 } ∧ ((pool none 5).profile 2).draft = none) ∧
      (admitted (commits valve 2 (some { gen := 1, shape := short, engaged := 1 })) .commit { b2 := 3 } ∧
        ((commits valve 2 (some { gen := 1, shape := short, engaged := 1 })).profile 2).draining.isSome = true) ∧
      (((commits valve 65535 none).profile 2).draining = none ∧ ((commits valve 65535 none).profile 2).highWater = 65535) ∧
      (((commits revised 65534 none).profile 2).highWater < 65535 ∧ runChecks revised = .fail 7 (some (.energize, 1))) ∧
      (((commits valve 65534 none).profile 2).highWater < 65535 ∧ runChecks valve = .pass) := by
  decide +kernel

theorem witness_TableReadsAnswerWhatIsHeld :
    (admitted (part .safe) .readTableMap { b2 := 1 } ∧ admitted (part .safe) .readTableMap { b2 := 4 } ∧
        admitted (part .safe) .readTableMap { b2 := 0 } ∧ admitted (part .safe) .readTableMap { b2 := 5 }) ∧
      (admitted (pool none 7) .readProfile { b2 := 3, b3 := 0, b4 := 1 } ∧ admitted (pool none 7) .readProfile { b2 := 3, b3 := 4, b4 := 1 } ∧
        admitted (pool none 7) .readProfile { b2 := 3, b3 := 1, b4 := 0 } ∧ admitted (pool none 7) .readProfile { b2 := 3, b3 := 1, b4 := 6 }) ∧
      (versionSelector? 1 = some .live ∧ admitted (pool none 7) .readProfile { b2 := 3, b3 := 1, b4 := 1 }) ∧
      (versionSelector? 3 = some .draining ∧ admitted (pool none 7) .readProfile { b2 := 3, b3 := 3, b4 := 5 } ∧
        ((pool none 7).profile 2).select .draining = none) ∧
      (admitted (pool none 7) .readProfile { b2 := 3, b3 := 1, b4 := 2 } ∧ admitted (pool none 7) .readProfile { b2 := 3, b3 := 1, b4 := 5 } ∧
        ((pool none 7).profile 2).select .live = some (2, 0, revised)) := by
  decide +kernel

theorem witness_SetPhaseAndSetFieldsRewriteDraft :
    (admitted (pool none 7) .setPhase { b2 := 3 } ∧ ((pool none 7).profile 2).draft = none) ∧
      (admitted (pool (some valve) 7) .setPhase { b2 := 3 } ∧ entryOf { b2 := 3 } = none) ∧
      (admitted (pool (some valve) 7) .setPhase { b2 := 3, b3 := 2, b4 := 5 } ∧
        (valve.seqOf (positionSeq 2)).length ≤ positionIndex 2) ∧
      (admitted (pool (some valve) 7) .setPhase { b2 := 3, b3 := 1, b4 := 5 } ∧
        entryOf { b2 := 3, b3 := 1, b4 := 5 } = some (entry .coast 0 0) ∧ positionIndex 1 < (valve.seqOf (positionSeq 1)).length) ∧
      (admitted (pool none 7) .setFields { b2 := 3, b3 := 3 }) ∧
      (admitted (pool (some valve) 7) .setFields { b2 := 3, b3 := 3 } ∧ fieldsOf { b2 := 3, b3 := 3 } valve.fields = none) ∧
      (admitted (pool (some valve) 7) .setFields { b2 := 3, b3 := 6 } ∧ fieldsOf { b2 := 3, b3 := 6 } valve.fields = none) ∧
      (admitted (pool (some valve) 7) .setFields { b2 := 3, b3 := 5 } ∧
        fieldsOf { b2 := 3, b3 := 5 } valve.fields = some { valve.fields with resistanceWindow := none }) := by
  decide +kernel

theorem witness_InsertAndDeletePhaseMoveOneEntry :
    (admitted (pool none 7) .insertPhase { b2 := 3, b4 := 2 }) ∧
      (admitted (pool (some valve) 7) .insertPhase { b2 := 3 } ∧ entryOf { b2 := 3 } = none) ∧
      (admitted (pool (some valve) 7) .insertPhase { b2 := 3, b3 := 3, b4 := 2 } ∧
        (valve.seqOf (positionSeq 3)).length < positionIndex 3) ∧
      (admitted (pool (some revised) 7) .insertPhase { b2 := 3, b3 := 0x42, b4 := 5 } ∧
        entryOf { b2 := 3, b3 := 0x42, b4 := 5 } = some (entry .coast 0 0) ∧
        positionIndex 0x42 ≤ (revised.seqOf (positionSeq 0x42)).length ∧
        maxCount (positionSeq 0x42) ≤ (revised.seqOf (positionSeq 0x42)).length ∧ maxCount (positionSeq 0x42) = 2) ∧
      (admitted (pool (some valve) 0) .insertPhase { b2 := 3, b3 := 2, b4 := 2 } ∧
        (valve.seqOf (positionSeq 2)).length < maxCount (positionSeq 2) ∧ (pool (some valve) 0).free = 0) ∧
      (admitted (pool (some valve) 1) .insertPhase { b2 := 3, b3 := 2, b4 := 2 } ∧
        entryOf { b2 := 3, b3 := 2, b4 := 2 } = some (entry .holdCurrent 0 0) ∧
        positionIndex 2 ≤ (valve.seqOf (positionSeq 2)).length ∧ 0 < (pool (some valve) 1).free) ∧
      (admitted (pool none 7) .deletePhase { b2 := 3 }) ∧
      (admitted (pool (some valve) 7) .deletePhase { b2 := 3, b3 := 2 } ∧
        (valve.seqOf (positionSeq 2)).length ≤ positionIndex 2) ∧
      (admitted (pool (some valve) 7) .deletePhase { b2 := 3, b3 := 0x40 } ∧
        positionIndex 0x40 < (valve.seqOf (positionSeq 0x40)).length) := by
  decide +kernel

theorem witness_PhaseReadsAndCheckDraftAnswer :
    (admitted (pool none 7) .readPhase { b2 := 3, b3 := 4 } ∧ versionSelector? 4 = none) ∧
      (admitted (pool none 7) .readPhase { b2 := 3, b3 := 2 } ∧ versionSelector? 2 = some .draft ∧
        ((pool none 7).profile 2).select .draft = none) ∧
      (admitted (pool none 7) .readPhase { b2 := 3, b3 := 1, b4 := 3 } ∧
        ((pool none 7).profile 2).select .live = some (2, 0, revised) ∧
        (revised.seqOf (positionSeq 3)).length ≤ positionIndex 3) ∧
      (admitted (pool none 7) .readPhase { b2 := 3, b3 := 1, b4 := 0x41 } ∧
        (revised.seqOf (positionSeq 0x41))[positionIndex 0x41]? = some (entry .coast 0 20)) ∧
      (admitted (pool none 155) .readPool {} ∧ PoolAccounted (pool none 155)) ∧
      (admitted (pool none 7) .checkDraft { b2 := 3 } ∧ ((pool none 7).profile 2).draft = none) ∧
      (((pool (some valve) 7).profile 2).draft = some valve ∧ runChecks valve = .pass) ∧
      (((pool (some revised) 7).profile 2).draft = some revised ∧ runChecks revised = .fail 7 (some (.energize, 1))) := by
  unfold PoolAccounted; decide +kernel

/-- An entry and fields at the ends of their ranges, and frames with the bytes of their replies. -/
theorem witness_RepliesCarryWhatRequestsWrite :
    ({ entry .rampCurrent 1023 60000 with start := some 1023, hit := true, motion := true } : PhaseEntry).kept = true ∧
      ({ fields with minOn := 20000, holdCap := 6000, hitTolerance := 50, dipThreshold := some 100, failureThreshold := 15 } :
        Fields).kept = true ∧ Fields.default.kept = true ∧
      (let d := entryData (entry .coast 0 10) 6
       let f : Frame := { b4 := d.b4, b5 := d.b5, b6 := d.b6, b7 := d.b7, b8 := d.b8, b9 := d.b9, b10 := d.b10 }
       f.b4 = d.b4 ∧ f.b5 = d.b5 ∧ f.b6 = d.b6 ∧ f.b7 = d.b7 ∧ f.b8 = d.b8 ∧ f.b9 = d.b9 ∧ f.b10 = d.b10) ∧
      (let d := motionData fields
       let f : Frame := { b3 := 4, b4 := d.b4, b5 := d.b5, b6 := d.b6, b7 := d.b7, b8 := d.b8, b9 := d.b9 }
       f.b3 = 4 ∧ f.b4 = d.b4 ∧ f.b5 = d.b5 ∧ f.b6 = d.b6 ∧ f.b7 = d.b7 ∧ f.b8 = d.b8 ∧ f.b9 = d.b9) ∧
      (fieldsOf { b3 := 2 } fields = none ∧ fieldsOf { b3 := 6 } fields = none) ∧
      (fieldsOf { b3 := 3, b4 := 78, b5 := 32, b6 := 23, b7 := 112, b8 := 50, b9 := 15 } fields).isSome = true ∧
      fieldsOf { b3 := 3, b4 := 78, b5 := 33, b6 := 23, b7 := 112, b8 := 50, b9 := 15 } fields = none ∧
      (fieldsOf { b3 := 5, b4 := 128, b5 := 0, b6 := 1, b7 := 255, b8 := 255 } fields).isSome = true := by decide +kernel

/-- Shapes that pass, and with them shapes whose marks break A6 and A7: a second HIT, a broken run, and no mark at all. -/
theorem witness_AcceptedShapesMeetEveryCheck :
    (runChecks valve = .pass ∧ runChecks plain = .pass ∧ runChecks short = .pass) ∧
      (valve.fields.dipThreshold.isSome = true ∧ plain.fields.dipThreshold = none) ∧
      runChecks { short with energize := [] } = .fail 1 none ∧
      runChecks { valve with release := [{ entry .fastDecay 0 20 with hit := true }] } = .fail 6 (some (.release, 0)) ∧
      (let e := { entry .holdCurrent 80 10 with motion := true }
       runChecks { valve with energize := [e, entry .holdCurrent 80 10, e, entry .holdCurrent 80 0] } = .fail 7 (some (.energize, 2))) ∧
      runChecks { valve with energize := [entry .holdCurrent 80 0] } = .fail 7 none := by
  decide +kernel

theorem witness_WindowChecksReportTheirPosition :
    plain.fields.travelWindow = none ∧ valve.fields.travelWindow = some { lo := 40, hi := 80 } ∧
      plain.fields.resistanceWindow = none ∧ valve.fields.resistanceWindow = some { lo := 80, hi := 140 } ∧
      valve.energize = [{ entry .holdCurrent 250 150 with hit := true, motion := true }] ++ [entry .holdCurrent 80 0] := by
  decide +kernel

theorem witness_OutOfRangeChannelIsBadTarget :
    admitted (part .armed) .actuate { b2 := 8 } ∧ admitted (part .standby) .bind { b2 := 255 } ∧
      admitted (part .standby) .clearFaults { b2 := 254 } ∧ 8 ≤ (8 : Byte).toNat ∧ (254 : Byte).toNat ≠ 255 := by decide +kernel

/-- P1 and P2 live, and CH0 bound to P2. -/
def boundToOther : State :=
  (bound .standby valve).setProfile 1 (lives short 0 1) |>.setProfile 0 (lives valve 0 0) |>.setChannel 0
    { (bound .standby valve).channel 0 with binding := some 1 }

theorem witness_BindAndUnbindMoveBindingAndCounts :
    (admitted driving .bind { b3 := 1 } ∧ (driving.channel 0).running.isSome = true) ∧
      (admitted (part .standby) .bind { b2 := 7, b3 := 32 } ∧ ((part .standby).channel 7).running = none ∧
        ((part .standby).profile 31).live = none) ∧
      (admitted (bound .standby valve) .bind { b3 := 1 } ∧ ((bound .standby valve).channel 0).running = none ∧
        ((bound .standby valve).profile 0).live.isSome = true ∧ ((bound .standby valve).channel 0).binding = some 0) ∧
      (admitted (taught .standby valve) .bind { b3 := 1 } ∧ ((taught .standby valve).channel 0).binding = none) ∧
      (admitted boundToOther .bind { b3 := 1 } ∧ (boundToOther.profile 0).live.isSome = true ∧
        (boundToOther.channel 0).binding = some 1 ∧ (1 : ProfileId) ≠ 0) ∧
      (admitted driving .unbind {} ∧ (driving.channel 0).unbindPending = false) ∧
      (let s := driving.setChannel 0 { driving.channel 0 with unbindPending := true }
       admitted s .unbind {} ∧ (s.channel 0).running.isSome = true ∧ (s.channel 0).unbindPending = true) ∧
      (admitted (part .standby) .unbind { b2 := 7 } ∧ ((part .standby).channel 7).binding = none) ∧
      admitted (bound .standby valve) .unbind {} := by decide +kernel

theorem witness_SetAndReadChannel :
    (admitted (part .standby) .setChannel { b3 := 0x80 } ∧ (0x80 : Byte).toNat % 4 = 0) ∧
      (admitted driving .setChannel { b3 := 1 } ∧ (1 : Byte).toNat % 4 = triggerCode .pin ∧
        (driving.channel 0).running.isSome = true) ∧
      (admitted (part .standby) .setChannel { b2 := 7, b3 := 0x83 } ∧ (0x83 : Byte).toNat % 4 = triggerCode .either ∧
        ((part .standby).channel 7).running = none ∧ (0x83 : Byte).getLsbD 7 = true) ∧
      (admitted (part .standby) .setChannel { b3 := 2 } ∧ (2 : Byte).toNat % 4 = triggerCode .link ∧
        (2 : Byte).getLsbD 7 = false) ∧
      admitted (part .standby) .readChannel { b3 := 1 } ∧ admitted (part .standby) .readChannel { b3 := 2 } ∧
      admitted (part .standby) .readChannel { b3 := 0 } ∧ admitted (part .standby) .readChannel { b3 := 3 } ∧
      ((part .standby).channel 7).running = none ∧ (driving.channel 0).running.isSome = true := by decide +kernel

theorem witness_ActuateStartsReadyChannel :
    (admitted (part .armed) .actuate {} ∧ ((part .armed).channel 0).trigger = .pin) ∧
      (admitted driving .actuate {} ∧ (driving.channel 0).trigger ≠ .pin ∧ (driving.channel 0).running.isSome = true) ∧
      (let s := (bound .armed valve).setChFault 0 { ChannelFault.reset with openLoad := true }
       admitted s .actuate {} ∧ (s.channel 0).running = none ∧ (s.chFault 0).latched = true) ∧
      (let s := (part .armed).setChannel 7 { Channel.reset with trigger := .link }
       admitted s .actuate { b2 := 7 } ∧ (s.chFault 7).latched = false ∧ (s.channel 7).binding = none) ∧
      (let s := (bound .armed valve).setProfile 0 { lives valve 0 1 with failureRun := 3, withheld := true }
       admitted s .actuate {} ∧ (s.channel 0).binding = some 0 ∧ (s.profile 0).live.isSome = true ∧ (s.profile 0).withheld = true) ∧
      (admitted (bound .armed valve) .actuate {} ∧ ((bound .armed valve).channel 0).running = none ∧
        ((bound .armed valve).chFault 0).latched = false ∧ ((bound .armed valve).channel 0).binding = some 0 ∧
        ((bound .armed valve).profile 0).live = some { gen := 1, shape := valve, engaged := 0 } ∧
        ((bound .armed valve).profile 0).withheld = false) := by decide +kernel

theorem witness_ReleaseTakenHeldOrRefused :
    (admitted (bound .armed valve) .release {} ∧ ((bound .armed valve).channel 0).running = none) ∧
      (admitted (runs .armed valve (actuation .pin .release 0 400 0)) .release {}) ∧
      (let a := { early with heldFrom := some .pin, earlyHeld := true }
       admitted (runs .armed valve a) .release {} ∧ ((runs .armed valve a).channel 0).running = some a ∧ a.seq = .energize ∧
        a.heldFrom.isSome = true) ∧
      (admitted (runs .armed valve early) .release {} ∧ ((runs .armed valve early).channel 0).running = some early ∧
        early.heldFrom = none ∧ early.time < 2 * ((runs .armed valve early).shapeOf early).fields.minOn) ∧
      (admitted (runs .armed valve late) .release {} ∧ ((runs .armed valve late).channel 0).running = some late ∧
        late.heldFrom = none ∧ 2 * ((runs .armed valve late).shapeOf late).fields.minOn ≤ late.time) := by decide +kernel

theorem witness_ReadOutcomeClearsUnread :
    (admitted (part .standby) .readOutcome { b3 := 0 } ∧ admitted (part .standby) .readOutcome { b3 := 3 }) ∧
      (admitted (part .standby) .readOutcome { b2 := 7, b3 := 1 } ∧ ((part .standby).channel 7).outcome = none) ∧
      (let s := { ended with link := { ended.link with frameOpen := true } }
       admitted s .readOutcome { b3 := 1 } ∧ admitted s .readOutcome { b3 := 2 } ∧ (s.channel 0).outcome.isSome = true) := by
  decide +kernel

/-- CH0 of a state with another level last seen on its line. -/
def sees (s : State) (level : CtlSeen) : State := s.setChannel 0 { s.channel 0 with ctlSeen := level }

theorem witness_LineChangesActByChannelState :
    (((State.reset.channel 0).ctlSeen = .unsampled ∧ State.reset.inFullReset = false) ∧
      ((sees State.reset .asserted).channel 0).ctlSeen = .asserted ∧ ((sees State.reset .deasserted).channel 0).ctlSeen = .deasserted ∧
      ((bound .armed valve).ready 0 = true ∧ ((bound .armed valve).channel 0).ctlSeen = .deasserted ∧
        ((bound .armed valve).channel 0).binding = some 0 ∧
        ((bound .armed valve).profile 0).live = some { gen := 1, shape := valve, engaged := 0 } ∧
        ((bound .armed valve).channel 0).edgeArmed = true ∧ ((bound .armed valve).channel 0).trigger ≠ .link ∧
        ((bound .armed valve).profile 0).withheld = false) ∧
      ((bound .standby valve).ready 0 = true ∧ (bound .standby valve).modes.mode ≠ .armed) ∧
      ((sees State.reset .deasserted).ready 0 = false) ∧
      ((sees (bound .armed valve) .asserted).ready 0 = true ∧ ((sees (bound .armed valve) .asserted).channel 0).running = none) ∧
      ((runs .armed valve early).inFullReset = false ∧ ((runs .armed valve early).channel 0).ctlSeen = .asserted ∧
        ((runs .armed valve early).channel 0).running = some early ∧ early.origin = .pin ∧ early.heldFrom = none ∧
        early.time < 2 * ((runs .armed valve early).shapeOf early).fields.minOn) ∧
      (((runs .armed valve late).channel 0).ctlSeen = .asserted ∧
        2 * ((runs .armed valve late).shapeOf late).fields.minOn ≤ late.time) ∧
      ((runs .armed valve { late with origin := .link }).channel 0).running = some { late with origin := .link } ∧
        ((bound .armed valve).channel 0).ctlSeen = seenAs .deasserted ∧ (period 0 false).ctl = .asserted ∧
        (driving.channel 0).ctlSeen = seenAs .asserted) ∧
      (∃ t, exec (.regulationPeriod (.channel 0 { period 0 false with ctl := .deasserted })) (bound .armed valve) = .next t) ∧
      ∃ t, exec (.regulationPeriod (.channel 0 (period 80 false))) driving = .next t := by
  refine ⟨?_, ⟨_, rfl⟩, _, rfl⟩
  decide +kernel

/-- A state that drives CH0 with nothing due, at a phase, its line last seen asserted. -/
def drives (s : State) (a : Actuation) (ph : PhaseEntry) : Bool :=
  !s.inFullReset && decide (s.settleDue 0 = s) && decide ((s.channel 0).running = some a) &&
    decide ((s.channel 0).ctlSeen = seenAs (period 0 false).ctl) && decide (s.phaseOf a = some ph)

/-- A state with CH0's line not yet sampled. -/
def unsampled (s : State) : State := s.setChannel 0 { s.channel 0 with ctlSeen := .unsampled }

/-- A driving channel whose line is not yet sampled, in an energize phase and in a decay that ends. -/
theorem witness_DrivingPeriodFollowsPhase_unsampled :
    (let a := actuation .pin .energize 1 59 19
     let s := unsampled (runs .armed plain a)
     s.inFullReset = false ∧ s.settleDue 0 = s ∧ (s.channel 0).running = some a ∧ (s.channel 0).ctlSeen = .unsampled ∧
       s.phaseOf a = some (entry .driveDuty 100 10)) ∧
      (let a := actuation .pin .release 0 400 0
       let s := unsampled (runs .armed valve a)
       s.settleDue 0 = s ∧ (s.channel 0).running = some a ∧ (s.channel 0).ctlSeen = .unsampled ∧
         s.phaseOf a = some (entry .fastDecay 0 20) ∧ a.noted = some .releasedPin ∧ valve.release.length ≤ a.pos + 1) := by
  decide +kernel

/-- CH0 at the end of its first phase, with a dip to confirm. -/
def manyDue : State :=
  (runs .armed valve (actuation .pin .energize 0 300 300)).setDiag 0 (searching 4 (some 183) (some 209))

theorem manyDue_running (a : Actuation) (h : (manyDue.channel 0).running = some a) : 1 ≤ (manyDue.shapeOf a).fields.holdCap := by
  have e : (manyDue.channel 0).running = some (actuation .pin .energize 0 300 300) := by decide +kernel
  rw [e] at h
  cases h
  decide +kernel

theorem witness_DrivingPeriodFollowsPhase_due :
    manyDue.Runs (settled manyDue) (dueRows 0) ∧ (∃ u, exec (.openLoadLatchSet 0) (settled manyDue) = .next u) ∧
      (∀ a, (manyDue.channel 0).running = some a → 1 ≤ (manyDue.shapeOf a).fields.holdCap) ∧ manyDue.inFullReset = false ∧
      settled manyDue ≠ manyDue :=
  ⟨runs_settled manyDue, ⟨_, rfl⟩, manyDue_running, rfl, by decide +kernel⟩

theorem witness_DrivingPeriodFollowsPhase :
    (let a := actuation .pin .release 0 400 0
     drives (runs .armed { plain with release := [entry .fastDecay 0 10, entry .coast 0 10] } a) a (entry .fastDecay 0 10) ∧
       a.pos + 1 < 2) ∧
      (let a := actuation .pin .release 0 400 0
       drives (runs .armed valve a) a (entry .fastDecay 0 20) ∧ a.noted = some .releasedPin ∧ valve.release.length ≤ a.pos + 1) ∧
      (let a := actuation .pin .energize 0 39 39
       drives (runs .armed plain a) a { entry .rampCurrent 200 20 with start := some 0 }) ∧
      (let a := actuation .pin .energize 1 59 19
       drives (runs .armed plain a) a (entry .driveDuty 100 10)) ∧
      (let a := actuation .pin .release 0 100 0
       drives (runs .armed plain a) a (entry .coast 0 10)) ∧
      (let a := actuation .pin .energize 0 299 299
       drives (runs .armed valve a) a { entry .holdCurrent 250 150 with hit := true, motion := true } ∧
         a.phaseTime + 1 = 2 * 150 ∧ ((runs .armed valve a).diag 0).hit = .notJudged) ∧
      (let a := actuation .pin .energize 0 0 0
       let s := (runs .armed valve a).setDiag 0 { Diag.reset with search := .waiting }
       drives s a { entry .holdCurrent 250 150 with hit := true, motion := true } ∧ (s.diag 0).search = .waiting) ∧
      (let a := actuation .pin .energize 0 182 182
       let s := (runs .armed valve a).setDiag 0 (searching 0 none none)
       drives s a { entry .holdCurrent 250 150 with hit := true, motion := true } ∧ (s.diag 0).search = .searching ∧
         (s.diag 0).peak = some 241 ∧ (s.shapeOf a).fields.dipThreshold = some 20 ∧ min 1023 220 + 20 < 241 ∧
         241 ≤ min 1023 221 + 20) ∧
      (let a := actuation .pin .energize 0 187 187
       let s := (runs .armed valve a).setDiag 0 { Diag.reset with search := .inDip, dipPeak := some 241, valley := some 209 }
       drives s a { entry .holdCurrent 250 150 with hit := true, motion := true } ∧ (s.diag 0).search = .inDip ∧
         (s.diag 0).dipPeak = some 241 ∧ (s.diag 0).valley = some 209 ∧ (s.shapeOf a).fields.dipThreshold = some 20) ∧
      (let a := actuation .pin .energize 0 199 199
       let s := (runs .armed valve a).setDiag 0 { Diag.reset with search := .found }
       drives s a { entry .holdCurrent 250 150 with hit := true, motion := true } ∧ (s.diag 0).search = .found) := by decide +kernel

/-- CH0 undriven with its check on, its window full. -/
def sixth : State :=
  ((bound .standby valve).setChannel 0 { (bound .standby valve).channel 0 with openLoadCheck := true }).setChFault 0
    { ChannelFault.reset with pull := .outOfBand, window := 6 }

theorem witness_IdlePeriodMeasures :
    (State.reset.inFullReset = false ∧ (State.reset.channel 0).running = none ∧ State.reset.openLoadDue 0 = false ∧
        (State.reset.channel 0).ctlSeen = .unsampled) ∧
      (let s := ((bound .standby valve).setChannel 0 { (bound .standby valve).channel 0 with openLoadCheck := true }).setChFault 0
        { ChannelFault.reset with pull := .outOfBand, window := 5 }
       (s.channel 0).running = none ∧ s.openLoadDue 0 = false ∧ (s.channel 0).ctlSeen = seenAs .deasserted ∧
         (s.channel 0).ctlSeen ≠ .unsampled ∧ (s.channel 0).openLoadCheck = true ∧ (s.chFault 0).latched = false ∧
         (s.chFault 0).tripPeriod = false) ∧
      (let s := ((bound .armed valve).setChannel 0 { (bound .armed valve).channel 0 with openLoadCheck := true }).setChFault 0
        { ChannelFault.reset with overcurrent := true, overcurrentPresent := true, tripPeriod := true }
       (s.channel 0).running = none ∧ s.openLoadDue 0 = false ∧ (s.channel 0).openLoadCheck = true ∧
         (s.chFault 0).tripPeriod = true) ∧
      (sixth.channel 0).running = none ∧ sixth.openLoadDue 0 = true := by decide +kernel

theorem witness_IdlePeriodMeasures_due : (sixth.channel 0).running = none ∧ ∃ t, exec (.openLoadLatchSet 0) sixth = .next t :=
  ⟨by decide +kernel, _, rfl⟩

theorem witness_SharedPeriodMeasuresAndCounts :
    ((part .armed).inFullReset = false ∧ 249 < 250) ∧
      ((part .standby).monitor.uvm = false ∧ 1050 ≥ 600 ∧ (25 : Int) < 165 ∧ (part .standby).monitor.ovt = false ∧
        (part .standby).monitor.progOk = true ∧ 1050 ≤ 1050 ∧ (part .standby).store.inFlight = none) ∧
      ((writes (part .standby) 1).store.inFlight.map fun w => w.remaining) = some 1 ∧
      (let s := { part .suspended with monitor := { Monitor.reset with uvm := true, ovt := true } }
       s.monitor.uvm = true ∧ 650 ≤ 650 ∧ s.monitor.ovt = true ∧ (145 : Int) ≤ 145 ∧ s.monitor.progOk = false ∧ 650 < 1100) ∧
      (let s := { part .standby with faults := { FaultUnit.reset with timer := some 0 } }
       s.inFullReset = false ∧ s.faults.timer = some 0) ∧
      { FaultUnit.reset with timer := some 1 }.timer ≠ some 0 ∧ FaultUnit.reset.timer ≠ some 0 := by decide +kernel

/-- A measurement at each bound's far side, and what is due before a period. -/
theorem witness_SharedPeriodMeasuresAndCounts_crossing :
    ((part .armed).monitor.uvm = false ∧ 599 < 600 ∧ (part .armed).monitor.ovt = false ∧ (165 : Int) ≤ 165 ∧
        (part .armed).store.inFlight = none ∧ (part .armed).faults.timer = none) ∧
      (∃ t u, exec (.uvmOnset 599) (part .armed) = .next t ∧ exec (.ovtOnset 165) t = .next u) ∧
      (let s := { part .suspended with monitor := { Monitor.reset with uvm := true, ovt := true } }
       s.monitor.uvm = true ∧ 650 < 651 ∧ s.monitor.ovt = true ∧ (144 : Int) < 145 ∧
         ∃ t u, exec (.uvmClears 651) s = .next t ∧ exec (.ovtClears 144) t = .next u) ∧
      (State.reset.monitor.progOk = false ∧ ∃ t, exec (.progOkTrue 1100) State.reset = .next t) ∧
      ((part .standby).monitor.progOk = true ∧ ∃ t, exec (.progOkFalse 1049) (part .standby) = .next t) ∧
      (∃ t, exec .storeWriteComplete (writes (part .standby) 0) = .next t) ∧
      ∃ t, exec .stretchExpired { part .standby with faults := { FaultUnit.reset with timer := some 0 } } = .next t :=
  ⟨by decide +kernel, ⟨_, _, rfl, rfl⟩, ⟨rfl, by decide, rfl, by decide, _, _, rfl, rfl⟩, ⟨rfl, _, rfl⟩, ⟨rfl, _, rfl⟩, ⟨_, rfl⟩, _, rfl⟩

theorem witness_RampTargetsStayOnTheLine :
    0 < 1 ∧ 1 ≤ 1 ∧ 400 ≤ 400 ∧ (rampTarget 0 200 20 40 = 100 ∧ rampTarget 0 200 40 40 = 200) ∧ rampTarget 1023 0 1 40 = 400 ∧
      rampTarget 200 60 1 3 = 154 ∧ 60 ≤ 200 ∧ 400 ≤ 400 := by decide +kernel

/-- The valve's one MOTION phase is its first. -/
theorem valve_lastMotion (j : Nat) (e : PhaseEntry) (h : 0 < j) (he : valve.energize[j]? = some e) : e.motion = false := by
  match j, h with
  | 1, _ => cases he; rfl
  | _ + 2, _ => cases he

/-- The same with both its energize entries marked. -/
def marked : Shape :=
  { valve with energize := valve.energize.map fun e => { e with motion := true } }

theorem witness_PhaseEndsMoveTheCursor :
    ((∀ j e, 0 < j → valve.energize[j]? = some e → e.motion = false) ∧
        ∃ j e, 0 < j ∧ marked.energize[j]? = some e ∧ e.motion = true) ∧
      (let a := actuation .pin .energize 0 300 300
     let s := runs .armed valve a
     (s.channel 0).running = some a ∧ s.phaseOf a = some { entry .holdCurrent 250 150 with hit := true, motion := true } ∧
       2 * 150 ≤ a.phaseTime ∧ a.heldFrom = none ∧ a.pos + 1 < (s.shapeOf a).energize.length ∧ s.shapeOf a = valve) ∧
      (let a := actuation .pin .energize 0 300 300
       let s := runs .armed marked a
       s.shapeOf a = marked ∧ (s.phaseOf a).isSome = true ∧ a.pos + 1 < (s.shapeOf a).energize.length) ∧
      (let a := actuation .pin .energize 1 60 20
       let s := runs .armed plain a
       s.phaseOf a = some (entry .driveDuty 100 10) ∧ 2 * 10 ≤ a.phaseTime ∧ (s.shapeOf a).energize.length ≤ a.pos + 1) ∧
      (let a := actuation .pin .release 0 100 20
       let s := runs .armed plain a
       s.phaseOf a = some (entry .coast 0 10) ∧ 2 * 10 ≤ a.phaseTime ∧ a.pos + 1 < (s.shapeOf a).release.length) ∧
      (let a := actuation .pin .release 0 430 1
       let s := runs .armed valve a
       s.phaseOf a = some (entry .fastDecay 0 20) ∧ 0 < a.phaseTime ∧ (s.stage 0).sensed = 0 ∧ a.noted = some .releasedPin ∧
         (s.shapeOf a).release.length ≤ a.pos + 1) ∧
      (let a := actuation .pin .energize 1 1200300 1200000
       let s := runs .armed valve a
       s.phaseOf a = some (entry .holdCurrent 80 0) ∧ 2000 * (s.shapeOf a).fields.holdCap ≤ a.phaseTime ∧ a.heldFrom = none) ∧
      (let a := { late with heldFrom := some .disarm, earlyHeld := true }
       let s := runs .standby valve a
       (s.channel 0).running = some a ∧ s.phaseOf a = some (entry .holdCurrent 80 0) ∧ a.seq = .energize ∧
         2 * (s.shapeOf a).fields.minOn ≤ a.time) ∧
      (let a := { actuation .pin .energize 0 400 300 with heldFrom := some .link, earlyHeld := true }
       let s := runs .armed valve a
       (s.channel 0).running = some a ∧ s.phaseOf a = some { entry .holdCurrent 250 150 with hit := true, motion := true } ∧
         2 * (s.shapeOf a).fields.minOn ≤ a.time ∧ 2 * 150 ≤ a.phaseTime) ∧
      (let a := { actuation .pin .energize 1 1200300 1200000 with heldFrom := some .pin, earlyHeld := true }
       let s := runs .armed valve a
       s.phaseOf a = some (entry .holdCurrent 80 0) ∧ 2 * (s.shapeOf a).fields.minOn ≤ a.time ∧
         2000 * (s.shapeOf a).fields.holdCap ≤ a.phaseTime) ∧
      (Diag.reset.search = .off ∧ (searching 0 none none).search = .searching ∧
        (let u := { searching 4 (some 183) (some 209) with search := .inDip, dipTime := some 183 }
         u.search = .inDip ∧ u.dipTime = some 183)) :=
  ⟨⟨valve_lastMotion, 1, { entry .holdCurrent 80 0 with motion := true }, by decide, rfl, rfl⟩, by decide +kernel⟩

theorem witness_EndStepRecordsAndDisengages :
    ((driving.channel 0).running = some late ∧ (driving.profile 0).live = some { gen := 1, shape := valve, engaged := 1 }) ∧
      (let s := driving.setProfile 0
        { lives valve 1 1 with
          live := some { gen := 2, shape := short, engaged := 0 }, draining := some { gen := 1, shape := valve, engaged := 1 } }
       (s.channel 0).running = some late ∧ (s.profile 0).live = some { gen := 2, shape := short, engaged := 0 } ∧
         2 ≠ late.gen ∧ (s.profile 0).draining = some { gen := 1, shape := valve, engaged := 1 } ∧ late.gen = 1) ∧
      (let s := driving.setProfile 0
        { lives valve 1 1 with
          live := some { gen := 2, shape := short, engaged := 0 }, draining := some { gen := 1, shape := valve, engaged := 2 } }
       (s.profile 0).draining = some { gen := 1, shape := valve, engaged := 2 } ∧ 1 < 2) ∧
      (let s := driving.setChannel 0 { driving.channel 0 with unbindPending := true }
       (s.channel 0).running = some late ∧ (s.channel 0).unbindPending = true ∧ (s.channel 0).binding = some 0) ∧
      (1 : ProfileId) ≠ late.profile ∧ (1 : ChannelId) ≠ 0 := by decide +kernel

theorem witness_DipAndResistanceAreTaken :
    (let a := actuation .pin .energize 0 186 186
     let s := (runs .armed valve a).setDiag 0 (searching 4 (some 183) (some 209))
     s.inFullReset = false ∧ (s.channel 0).running = some a ∧ (s.diag 0).search = .searching ∧ 0 < (s.diag 0).dipCount ∧
       (s.shapeOf a).fields.dipPersistence ≤ (s.diag 0).dipCount) ∧
      (let a := actuation .pin .energize 1 700 400
       let s := runs .armed valve a
       (s.channel 0).running = some a ∧ s.phaseOf a = some (entry .holdCurrent 80 0) ∧ a.phaseTime = 400 ∧
         (s.diag 0).sample = none) ∧
      ((driving.channel 0).running = some late ∧ (driving.diag 0).search ≠ .searching ∧
        late.phaseTime ≠ 400) ∧
      ((searching 3 (some 183) (some 209)).dipCount < valve.fields.dipPersistence ∧ (searching 0 none none).dipCount = 0 ∧
        { Diag.reset with sample := some 84 }.sample.isSome = true) ∧
      ∃ t u, exec (.dipConfirmed 0) driving = .next t ∧ exec (.resistanceSample 0) t = .next u := by
  refine ⟨by decide +kernel, by decide +kernel, by decide +kernel, by decide +kernel, _, _, rfl, rfl⟩

theorem witness_VerdictByFirstLine :
    verdictOf .safeStop [.hitShort] = .aborted ∧ verdictOf .overcurrent [] = .flawed ∧
      verdictOf .releasedPin [.earlyReleaseHeld] = .clean := by decide +kernel

theorem witness_VerdictsMoveTheFailureRun :
    ((driving.profile 0).live = some { gen := 1, shape := valve, engaged := 1 } ∧ (driving.profile 0).failureRun ≤ 15 ∧ 2 ≠ 1 ∧
        (1 : ProfileId) ≠ 0) ∧
      (let s := driving.setProfile 0 { lives valve 1 1 with failureRun := 15, withheld := true }
       (s.profile 0).live = some { gen := 1, shape := valve, engaged := 1 } ∧ (s.profile 0).failureRun ≤ 15 ∧
         (s.profile 0).failureRun = 15) := by decide +kernel

theorem witness_FaultReadsAndMasks :
    admitted (part .safe) .readFaults { b2 := 1 } ∧ admitted (part .safe) .readFaults { b2 := 2 } ∧
      admitted (part .safe) .readFaults { b2 := 0 } ∧ admitted (part .safe) .readFaults { b2 := 3 } ∧
      admitted (part .safe) .setFaultMask { b2 := 0x3F, b3 := 3 } ∧ stretchCode .ms1000 = (3 : Byte).toNat ∧
      admitted (part .safe) .setFaultMask {} ∧ stretchCode .zero = (0 : Byte).toNat := by decide +kernel

theorem witness_ClearFaultsJudgesConditions :
    (admitted (part .standby) .clearFaults { b2 := 7 } ∧ ((part .standby).channel 7).running = none ∧
        ((part .standby).chFault 7).latched = false) ∧
      (let s := (bound .standby valve).setChFault 0 { ChannelFault.reset with overcurrent := true, overcurrentPresent := true }
       admitted s .clearFaults {} ∧ (s.chFault 0).latched = true ∧
         ((s.chFault 0).overcurrent && (s.chFault 0).overcurrentPresent) = true) ∧
      (let s := (bound .standby valve).setChFault 0 { ChannelFault.reset with openLoad := true, pull := .inBand }
       admitted s .clearFaults {} ∧ (s.chFault 0).latched = true ∧
         ((s.chFault 0).overcurrent && (s.chFault 0).overcurrentPresent) = false ∧
         ((s.chFault 0).openLoad && decide ((s.chFault 0).pull = .outOfBand)) = false) ∧
      (admitted driving .clearFaults {} ∧ (driving.chFault 0).latched = false) ∧
      admitted (part .standby) .clearFaults { b2 := 255 } ∧
      (let s := ((bound .standby valve).setChFault 0 { ChannelFault.reset with overcurrent := true }).setChFault 7
        { ChannelFault.reset with openLoad := true, pull := .outOfBand }
       admitted s .clearFaults { b2 := 255 } ∧ (s.chFault 0).latched = true ∧
         ((s.chFault 0).overcurrent && (s.chFault 0).overcurrentPresent) = false ∧
         ((s.chFault 7).openLoad && decide ((s.chFault 7).pull = .outOfBand)) = true) := by decide +kernel

theorem witness_LatchesAreSetByTheirTrouble :
    (let s := ((bound .standby valve).setChannel 0 { (bound .standby valve).channel 0 with openLoadCheck := true }).setChFault 0
        { ChannelFault.reset with pull := .outOfBand, window := 6 }
     s.inFullReset = false ∧ (s.channel 0).running = none ∧ (s.chFault 0).latched = false ∧ (s.channel 0).openLoadCheck = true ∧
       6 ≤ (s.chFault 0).window) ∧
      (let s := ((bound .standby valve).setChannel 0 { (bound .standby valve).channel 0 with openLoadCheck := true }).setChFault 0
        { ChannelFault.reset with pull := .outOfBand, window := 5 }
       (s.chFault 0).window < 6 ∧ (s.channel 0).openLoadCheck = true) ∧
      (((settled driving).channel 0).running = some late ∧ (settled driving).phaseOf late = some (entry .holdCurrent 80 0)) ∧
      (let a := actuation .pin .release 0 100 0
       let u := settled (runs .armed plain a)
       (u.channel 0).running = some a ∧ u.phaseOf a = some (entry .coast 0 10)) ∧
      ((settled (bound .armed valve)).channel 0).running = none := by decide +kernel

/-- The clause on the state alone: on what settleDue leaves, where something is due and where nothing is. -/
theorem witness_LatchesAreSetByTheirTrouble_state :
    (driving.inFullReset = false ∧ driving.settleDue 0 = driving ∧ (driving.channel 0).running = some late ∧
        driving.phaseOf late = some (entry .holdCurrent 80 0)) ∧
      (let u := manyDue.settleDue 0
       u ≠ manyDue ∧ (u.channel 0).running = some { actuation .pin .energize 1 300 0 with entryCurrent := (manyDue.stage 0).sensed } ∧
         u.phaseOf (actuation .pin .energize 1 300 0) = some (entry .holdCurrent 80 0)) ∧
      (let a := actuation .pin .release 0 100 0
       let s := runs .armed plain a
       s.settleDue 0 = s ∧ (s.channel 0).running = some a ∧ s.phaseOf a = some (entry .coast 0 10)) ∧
      ((bound .armed valve).settleDue 0 = bound .armed valve ∧ ((bound .armed valve).channel 0).running = none) := by
  decide +kernel

theorem witness_LatchesAreSetByTheirTrouble_due :
    driving.Runs (settled driving) (dueRows 0) ∧ (bound .armed valve).Runs (settled (bound .armed valve)) (dueRows 0) :=
  ⟨runs_settled driving, runs_settled _⟩

theorem witness_OnsetsSetFlagsAndSuspend :
    (driving.inFullReset = false ∧ driving.monitor.uvm = false ∧ 599 < 600 ∧ driving.modes.mode = .armed ∧
        driving.monitor.ovt = false ∧ (165 : Int) ≤ 165 ∧ (driving.channel 0).running.isSome = true ∧
        (driving.channel 1).running = none) ∧
      ((part .standby).modes.mode ≠ .armed ∧ (part .standby).monitor.uvm = false ∧ State.reset.monitor.progOk = false ∧
        (writes (part .standby) 1).monitor.progOk = true) := by
  decide +kernel

/-- The premise of AllStopped, on a part that drives. -/
theorem witness_AllStopped : TableAccounted driving ∧ (driving.channel 0).running = some late := ⟨accounted_driving, by decide +kernel⟩

theorem witness_ClearingsAndProgOk :
    (let s := { part .suspended with monitor := { Monitor.reset with uvm := true } }
     s.inFullReset = false ∧ s.monitor.uvm = true ∧ 650 < 651 ∧ s.monitor.progOk = false ∧ 651 < 1100) ∧
      (let s := { part .suspended with monitor := { Monitor.reset with ovt := true } }
       s.monitor.ovt = true ∧ (144 : Int) < 145) ∧
      (State.reset.monitor.progOk = false ∧ State.reset.monitor.uvm = false ∧ 1100 ≤ 1100) ∧
      ((part .standby).monitor.progOk = true ∧ 1049 < 1050 ∧ (part .standby).monitor.uvm = false ∧ 600 ≤ 1049) ∧
      (let s := { part .suspended with monitor := { (part .suspended).monitor with uvm := true } }
       s.monitor.uvm = true ∧ 650 < 1049 ∧ s.monitor.progOk = true ∧ 1049 < 1050 ∧ 650 < 1050 ∧ 650 ≤ 650) ∧
      (let s := { part .suspended with monitor := { Monitor.reset with uvm := true } }
       s.monitor.uvm = true ∧ s.monitor.progOk = false ∧ 650 < 1100 ∧ 1100 ≤ 1100) ∧
      ((part .armed).monitor.progOk = true ∧ (part .armed).monitor.uvm = false ∧ 599 < 600) := by
  decide +kernel

theorem witness_ArmAndLeaveSafe :
    (admitted (part .safe) .arm {} ∧ admitted (part .suspended) .arm {}) ∧ admitted (part .armed) .arm {} ∧
      (let s := { part .standby with monitor := { Monitor.reset with ovt := true } }
       admitted s .arm {} ∧ s.modes.mode = .standby ∧ s.monitor.ovt = true) ∧
      (admitted (opened (part .standby)) .arm {} ∧ (opened (part .standby)).store.session = .isOpen ∧
        (opened (part .standby)).monitor.uvm = false ∧ (opened (part .standby)).monitor.ovt = false) ∧
      (admitted (part .standby) .arm {} ∧ (part .standby).store.session ≠ .isOpen) ∧
      (let s := { part .safe with modes := { (part .safe).modes with nsafeSeen := .asserted } }
       admitted s .leaveSafe {} ∧ s.modes.nsafeSeen = .asserted) ∧
      (admitted (part .safe) .leaveSafe {} ∧ (part .safe).modes.nsafeSeen = .deasserted) := by decide +kernel

theorem witness_DisarmReleasesDrivingChannels :
    admitted (part .standby) .disarm {} ∧ admitted (part .suspended) .disarm {} ∧
      (admitted driving .disarm {} ∧ driving.modes.mode = .armed ∧ (driving.channel 1).energized = false ∧
        (driving.channel 0).running = some late ∧ late.seq = .energize ∧ late.heldFrom = none ∧
        (∀ c : ChannelId, c ≠ 0 → (driving.channel c).energized = false) ∧
        2 * (driving.shapeOf late).fields.minOn ≤ late.time) ∧
      (let s := runs .armed valve early
       admitted s .disarm {} ∧ (s.channel 0).running = some early ∧ early.time < 2 * (s.shapeOf early).fields.minOn) ∧
      (let a := { early with heldFrom := some .pin, earlyHeld := true }
       admitted (runs .armed valve a) .disarm {} ∧ ((runs .armed valve a).channel 0).running = some a ∧ a.heldFrom.isSome = true) := by
  decide +kernel

/-- Two channels that drive: one before min_on, and one at it. -/
theorem witness_DisarmReleasesDrivingChannels_each :
    TableAccounted driving ∧
      (admitted both .disarm {} = true ∧ (both.channel 0).running = some late ∧ (both.channel 1).running = some early ∧
        (both.shapeOf late).release ≠ []) :=
  ⟨accounted_driving, by decide +kernel⟩

theorem witness_SafeEntryStopsEveryChannel :
    admitted (part .safe) .safeStop {} ∧ (admitted driving .safeStop {} ∧ driving.modes.mode ≠ .safe) ∧
      (State.reset.inFullReset = false ∧ State.reset.modes.mode = .loading) ∧
      ((part .safe).inFullReset = false ∧ (part .safe).modes.mode = .safe) ∧
      (driving.inFullReset = false ∧ driving.modes.mode ≠ .loading ∧ (driving.channel 0).running.isSome = true ∧
        (driving.channel 1).running = none) ∧
      ((writes (part .standby) 1).modes.mode = .standby ∧ (writes (part .standby) 1).store.session = .isOpen) := by decide +kernel

theorem witness_SoftResetKeepsWhatWasTaught :
    (admitted driving .softReset { b1 := 15 } ∧ (driving.channel 1).running = none ∧ (driving.profile 1).live = none ∧
        (driving.profile 0).live = some { gen := 1, shape := valve, engaged := 1 } ∧ (driving.channel 0).running.isSome = true) ∧
      (PoolAccounted driving ∧ ChannelsConsistent driving ∧ TableAccounted driving) ∧
      (let s := driving.setChannel 0 { driving.channel 0 with unbindPending := true }
       admitted s .softReset {} ∧ ((s.channel 0).running.isSome && (s.channel 0).unbindPending) = true) ∧
      (admitted (pool (some valve) 2) .softReset {} ∧ ((pool (some valve) 2).profile 2).draft.isSome = true) ∧
      (let s := (part .standby).setProfile 3 { Profile.empty with draft := some valve }
       admitted s .softReset {} ∧ (s.profile 3).live = none ∧ (s.profile 3).draft.isSome = true) :=
  ⟨by decide +kernel, ⟨by unfold PoolAccounted; decide +kernel, by unfold ChannelsConsistent; decide +kernel, accounted_driving⟩, by decide +kernel, by decide +kernel, by decide +kernel⟩

theorem witness_StoreSessionsOpenAndClose :
    (let s := { part .standby with store := { (part .standby).store with locked := true } }
     admitted s .storeOpen {} ∧ s.store.locked = true) ∧
      (let s := { part .standby with monitor := Monitor.reset }
       admitted s .storeOpen {} ∧ s.store.locked = false ∧ s.monitor.progOk = false) ∧
      (admitted (writes (part .standby) 60) .storeOpen {} ∧ (writes (part .standby) 60).store.locked = false ∧
        (writes (part .standby) 60).monitor.progOk = true ∧ (writes (part .standby) 60).store.inFlight.isSome = true) ∧
      (admitted (part .standby) .storeOpen {} ∧ (part .standby).store.locked = false ∧ (part .standby).monitor.progOk = true ∧
        (part .standby).store.inFlight = none) ∧
      admitted (writes (part .standby) 60) .storeClose {} ∧
      (admitted (part .armed) .storeClose {} ∧ (part .armed).store.session = .closed) ∧
      (admitted (opened (part .standby)) .storeClose {} ∧ (opened (part .standby)).store.inFlight = none ∧
        (opened (part .standby)).store.session ≠ .closed) := by decide +kernel

theorem witness_StoreWritesBeginIntoLowestBlankCopy :
    (let s := opened (taught .standby valve)
     admitted s .storeWriteProfile { b2 := 1 } ∧ (s.profile 0).live = some { gen := 1, shape := valve, engaged := 0 } ∧
       s.store.session = .isOpen ∧ s.store.inFlight = none ∧ (s.store.record.get (0 : Slot))[0]? = some .blank) ∧
      (admitted (part .armed) .storeWriteMap { b2 := 1 } ∧ (part .armed).store.session ≠ .isOpen) ∧
      (admitted (writes (part .standby) 1) .storeLock {} ∧ (writes (part .standby) 1).store.session = .isOpen ∧
        (writes (part .standby) 1).store.inFlight.isSome = true) ∧
      (let s := opened { part .standby with
        store := ((part .standby).store.setCopyState 33 1 .spoiled).setCopyState 33 2 .valid }
       admitted s .storeLock {} ∧ s.store.session = .isOpen ∧ s.store.inFlight = none ∧
         ∀ x ∈ s.store.record.get (33 : Slot), x ≠ .blank) ∧
      (let s := opened { part .standby with
        store := ((part .standby).store.setCopyState 32 1 .spoiled).setCopyState 32 2 .valid }
       admitted s .storeWriteMap {} ∧ s.store.session = .isOpen ∧ (s.store.record.get (32 : Slot))[2]? = some .blank ∧
         (s.store.record.get (32 : Slot))[0]? ≠ some .blank ∧ (s.store.record.get (32 : Slot))[1]? ≠ some .blank) := by
  decide +kernel

theorem witness_StoreWriteCompletesAndQueryAnswers :
    (admitted (opened (part .standby)) .storeWriteProfile { b2 := 32 } ∧ (opened (part .standby)).store.session = .isOpen ∧
        (opened (part .standby)).store.inFlight = none ∧ ((opened (part .standby)).profile 31).live = none) ∧
      (admitted (part .armed) .storeWriteProfile { b2 := 32 } ∧ (part .armed).store.session ≠ .isOpen ∧
        ((part .armed).profile 31).live = none) ∧
      (admitted (writes (part .standby) 1) .storeWriteProfile { b2 := 32 } ∧ ((writes (part .standby) 1).profile 31).live = none ∧
        (writes (part .standby) 1).store.session = .isOpen ∧ (writes (part .standby) 1).store.inFlight.isSome = true) ∧
      ((writes (part .standby) 1).inFullReset = false ∧
        ((writes (part .standby) 1).store.inFlight.map fun w => w.remaining) = some 1 ∧
        ((writes (part .standby) 0).store.inFlight.map fun w => w.remaining) = some 0) ∧
      (admitted (part .armed) .storeQuery { b2 := 1 } ∧ admitted (part .armed) .storeQuery { b2 := 32 } ∧
        admitted (part .armed) .storeQuery { b2 := 64 } ∧ admitted (part .armed) .storeQuery { b2 := 65 } ∧
        admitted (part .armed) .storeQuery {} ∧ admitted (part .armed) .storeQuery { b2 := 33 } ∧
        admitted (part .armed) .storeQuery { b2 := 66 } ∧ admitted (part .armed) .storeQuery { b2 := 63 }) := by decide +kernel

theorem witness_LoaderWorksThroughTheSlots :
    ((loadsAt 0).inFullReset = false ∧ (loadsAt 0).modes.mode = .loading ∧ (loadsAt 0).loader.next = 0 ∧
        (loadsAt 0).store.newestValid (profileSlot 0) = none) ∧
      (let s := stored (loadsAt 31) 31 (.profile 31 65535 valve)
       s.loader.next = 31 ∧ s.store.newestValid (profileSlot 31) = some (.profile 31 65535 valve) ∧ (s.profile 31).live = none ∧
         valve.size ≤ s.free) ∧
      (let s := { stored (loadsAt 0) 0 (.profile 0 1 valve) with free := 2 }
       s.store.newestValid (profileSlot 0) = some (.profile 0 1 valve) ∧ s.free < valve.size) ∧
      ((loadsAt 32).modes.mode = .loading ∧ (loadsAt 32).loader.next = 32 ∧ (loadsAt 32).store.newestValid 32 = none) ∧
      (mapLoads.inFullReset = false ∧ mapLoads.modes.mode = .loading ∧ mapLoads.loader.next = 32 ∧
        mapLoads.store.newestValid 32 = some map ∧ mapLoads.loader.loaded.get 0 = true ∧
        ∀ ch, (mapLoads.channel ch).binding = none) ∧
      ((loadsAt 33).inFullReset = false ∧ (loadsAt 33).modes.mode = .loading ∧ (loadsAt 33).loader.next = 33) := by decide +kernel

/-! ### The kept properties at a state that drives, with a step to take -/

/-- The overcurrent trip of CH0's stage waits. -/
def tripping : State := { driving with pending := [.overcurrentTrip 0] }

theorem tripping_steps : ∃ t : State, step tripping = .next t := ⟨_, rfl⟩

theorem witness_EveryStepKeepsThePoolAccounted : PoolAccounted tripping ∧ ∃ t : State, step tripping = .next t :=
  ⟨by unfold PoolAccounted; decide +kernel, tripping_steps⟩

theorem witness_EveryStepKeepsTheModeRules :
    (ModeGovernsDrive tripping ∧ NsafeHolds tripping ∧ ConditionsGovern tripping) ∧ ∃ t : State, step tripping = .next t :=
  ⟨⟨fun _ _ _ => .inl rfl, nofun, by unfold ConditionsGovern; decide +kernel⟩, tripping_steps⟩

theorem witness_EveryStepKeepsTheTableCounted :
    ModeGovernsDrive tripping ∧ TableAccounted tripping ∧ ∃ t : State, step tripping = .next t :=
  ⟨fun _ _ _ => .inl rfl, accounted_driving, tripping_steps⟩

theorem witness_EveryStepKeepsWithheldExact : WithheldExact tripping ∧ ∃ t : State, step tripping = .next t :=
  ⟨by unfold WithheldExact; decide +kernel, tripping_steps⟩

theorem valve_inRange : liveInRange 1 valve := by
  unfold liveInRange Shape.inRange; decide +kernel

theorem shapes_tripping : ShapesInRange tripping := by
  refine ⟨fun p => ⟨fun v h => ?_, fun v h => ?_, fun d h => ?_, ?_⟩, fun slot c k h => ?_, fun w h => ?_⟩
  · have hv : (tripping.profile p).live = none ∨
        (tripping.profile p).live = some { gen := 1, shape := valve, engaged := 1 } := by
      clear h; revert p; decide +kernel
    rcases hv with hv | hv <;> rw [hv] at h <;> cases h
    exact valve_inRange
  · have : (tripping.profile p).draining = none := by clear h; revert p; decide +kernel
    rw [this] at h; cases h
  · have : (tripping.profile p).draft = none := by clear h; revert p; decide +kernel
    rw [this] at h; cases h
  · revert p; decide +kernel
  · have : tripping.store.cells slot = List.replicate (copiesOf slot) .blank := by clear h; revert slot; decide +kernel
    rw [this] at h
    exact absurd (List.eq_of_mem_replicate h) nofun
  · cases h

theorem witness_EveryStepKeepsShapesInRange : ShapesInRange tripping ∧ ∃ t : State, step tripping = .next t :=
  ⟨shapes_tripping, tripping_steps⟩

/-- CH0 drives with its stage in REGULATE. -/
theorem witness_EveryStepKeepsChannelsConsistent :
    (ChannelsConsistent tripping ∧ PullGoverned tripping) ∧ ∃ t : State, step tripping = .next t :=
  ⟨⟨by unfold ChannelsConsistent; decide +kernel, by unfold PullGoverned; decide +kernel⟩, tripping_steps⟩

/-- A write in flight into P1's slot in an open session, with its completion waiting. -/
def completing : State := { writes (part .standby) 0 with pending := [.storeWriteComplete] }

theorem completing_governed : StoreGoverned completing := by unfold StoreGoverned; decide +kernel

theorem completing_tracked : CopiesTracked completing := by
  refine ⟨by decide +kernel, by decide +kernel, fun slot _ i => ?_, fun w h => ?_⟩
  · have h3 : ∀ slot : Slot, ∀ i < 3, (completing.store.states slot)[i]? = some .blank ↔ (completing.store.cells slot)[i]? = some .blank := by
      decide +kernel
    have hl : ∀ slot : Slot, (completing.store.states slot).length ≤ 3 ∧ (completing.store.cells slot).length ≤ 3 := by decide +kernel
    by_cases hi : i < 3
    · exact h3 slot i hi
    · rw [List.getElem?_eq_none (by have := (hl slot).1; omega), List.getElem?_eq_none (by have := (hl slot).2; omega)]
      simp
  · cases h; decide +kernel

theorem completing_steps : ∃ t : State, step completing = .next t := ⟨_, rfl⟩

theorem witness_EveryStepKeepsTheStoreConsistent :
    (StoreGoverned completing ∧ CopiesTracked completing) ∧ ∃ t : State, step completing = .next t :=
  ⟨⟨completing_governed, completing_tracked⟩, completing_steps⟩

theorem witness_CopiesAreWrittenOnce :
    CopiesTracked completing ∧ StoreGoverned completing ∧ ∃ t : State, step completing = .next t :=
  ⟨completing_tracked, completing_governed, completing_steps⟩

end Sys2Proof.Tests
end

section
/-! The profile table: which ids a command takes, and what the commands that name a profile answer to the others (R2). -/

namespace Sys2Proof.Machine

/-! ### Ids -/

/-- The byte of a profile's id names that profile, and no other byte does (R2). -/
theorem profileId?_eq_some_iff {b : Byte} {p : ProfileId} : profileId? b = some p ↔ b.toNat = idOf p := by
  have hp := p.isLt
  unfold profileId? idOf
  split
  · simp only [Option.some.injEq, Fin.ext_iff]; omega
  · simp only [reduceCtorEq, false_iff]; omega

/-- The bytes that name no profile (R2). -/
theorem profileId?_eq_none_iff {b : Byte} : profileId? b = none ↔ b.toNat = 0 ∨ 33 ≤ b.toNat := by
  unfold profileId?
  split
  · simp only [reduceCtorEq, false_iff]; omega
  · simp only [true_iff]; omega

/-! ### Refusals -/

/-- An admitted command that its owner refuses leaves the reply, with no data, and nothing else (R25, R196). -/
theorem linkCommand_refuse {c : Command} {f : Frame} {s : State} {owner : State → State × Answer} {r : ResultCode}
    (h : s.admits c f) (ho : ∀ t, owner t = refuse t r) : linkCommand c f s owner = s.replied c f r {} :=
  linkCommand_reply owner h (ho _)

theorem withProfile_of_none {b : Byte} (hb : profileId? b = none) (s : State) (k : ProfileId → State × Answer) :
    withProfile b s k = refuse s .badTarget := by
  rcases withProfile_eq b s k with ⟨_, e⟩ | ⟨p, hp, _⟩
  · exact e
  · rw [hb] at hp; cases hp

/-- BIND refuses an id out of range, whatever channel it names (R65). -/
theorem bindChannel_of_none {f : Frame} (hb : profileId? f.b3 = none) (s : State) :
    bindChannel f s = refuse s .badTarget := by
  unfold bindChannel
  cases channelId? f.b2 <;> simp only [hb]

/-! ### Commands that name a profile by byte 2 -/

/-- The commands whose byte 2 is the id of a profile (12.5, 12.8). -/
def profileCommands : List Command :=
  [.openDraft, .discardDraft, .commit, .retire, .readProfile, .clearWithheld, .setPhase, .insertPhase, .deletePhase,
   .setFields, .readPhase, .checkDraft, .storeWriteProfile]

/-- The owner of each of these commands looks at the id before anything else (R2). -/
theorem exec_profileCommand {c : Command} (hc : c ∈ profileCommands) (f : Frame) (s : State) :
    ∃ k : State → ProfileId → State × Answer,
      exec (linkInstr c f) s = .next (linkCommand c f s fun t => withProfile f.b2 t (k t)) := by
  simp only [profileCommands, List.mem_cons, List.not_mem_nil, or_false] at hc
  rcases hc with rfl | rfl | rfl | rfl | rfl | rfl | rfl | rfl | rfl | rfl | rfl | rfl | rfl <;> exact ⟨_, rfl⟩

/-- Settles O12: the id is the first thing that each owner looks at, so one that names no profile is refused there. -/
theorem outOfRangeIdIsBadTarget : Obligations.OutOfRangeIdIsBadTarget := by
  refine ⟨fun b hlo hhi => ?_, fun c f s hs hc => ?_⟩
  · have hid : b.toNat = idOf ⟨b.toNat - 1, by omega⟩ := by simp only [idOf]; omega
    exact ⟨_, profileId?_eq_some_iff.mpr hid, hid.symm⟩
  · rcases hc with ⟨hc, hb⟩ | ⟨rfl, hb⟩
    · obtain ⟨k, hk⟩ := exec_profileCommand hc f s
      rw [hk, linkCommand_refuse hs fun t => withProfile_of_none (profileId?_eq_none_iff.mpr hb) t (k t)]
    · have hx : exec (linkInstr .bind f) s = .next (linkCommand .bind f s (bindChannel f)) := rfl
      rw [hx, linkCommand_refuse hs (bindChannel_of_none (profileId?_eq_none_iff.mpr hb))]

end Sys2Proof.Machine
end

section
/-! The acceptance checks: what the checks of the two windows report (R55, R56). -/

namespace Sys2Proof.Machine

/-- A check whose failure has no position fails exactly where its condition holds (12.4). -/
theorem failWithNone_eq_ite {b : Bool} {P : Prop} [Decidable P] (h : b = true ↔ P) :
    failWithNone b = if P then some none else none := by
  unfold failWithNone
  simp only [h]

/-! ### A8 -/

theorem checkA8_of_absent {sh : Shape} (h : sh.fields.travelWindow = none) : checkA8 sh = none := by
  simp only [checkA8, h]

/-- A travel window wants a dip threshold and its bounds in order (R55). -/
theorem checkA8_of_window {sh : Shape} {w : Window} (h : sh.fields.travelWindow = some w) :
    checkA8 sh = if sh.fields.dipThreshold = none ∨ w.hi < w.lo then some none else none := by
  simp only [checkA8, h]
  exact failWithNone_eq_ite (by simp only [Bool.or_eq_true, Option.isNone_iff_eq_none, decide_eq_true_eq])

/-! ### A9 -/

theorem checkA9_of_absent {sh : Shape} (h : sh.fields.resistanceWindow = none) : checkA9 sh = none := by
  simp only [checkA9, h]

/-- A resistance window wants an open-ended hold at the end of the energize sequence, and its bounds in order; a misplaced one is
reported at that last entry (R56). -/
theorem checkA9_of_window {sh : Shape} {w : Window} {before : List PhaseEntry} {e : PhaseEntry}
    (h : sh.fields.resistanceWindow = some w) (he : sh.energize = before ++ [e]) :
    checkA9 sh =
      if e.kind ≠ .holdCurrent ∨ e.duration ≠ 0 then some (some (.energize, before.length))
      else if w.hi < w.lo then some none else none := by
  have hlen : sh.energize.length - 1 = before.length := by
    simp only [he, List.length_append, List.length_singleton, Nat.add_sub_cancel]
  have hlast : sh.energize.getLast? = some e := by rw [he, List.getLast?_concat]
  simp only [checkA9, h, hlast, hlen]
  by_cases hold : e.kind = .holdCurrent ∧ e.duration = 0
  · rw [if_pos hold, if_neg fun misplaced => not_and_or.mpr misplaced hold]
    exact failWithNone_eq_ite decide_eq_true_iff
  · rw [if_neg hold, if_pos (not_and_or.mp hold)]

/-- Settles O22: an absent window passes, and a present one is judged by its check's rule. -/
theorem windowChecksReportTheirPosition : Obligations.WindowChecksReportTheirPosition := fun _ =>
  ⟨checkA8_of_absent, fun _ => checkA8_of_window, checkA9_of_absent, fun _ _ _ => checkA9_of_window⟩

end Sys2Proof.Machine
end

section
/-! The verdict on an actuation: the lines of its table, in order (R118). -/

namespace Sys2Proof.Machine

/-- A release held for min_on is not counted against the shape; any other finding is (R118). -/
theorem judgeFindings_eq_ite (fs : List Finding) :
    verdictOf.judgeFindings fs = if ∃ f ∈ fs, f ≠ .earlyReleaseHeld then .flawed else .clean := by
  unfold verdictOf.judgeFindings
  simp only [List.any_eq_true, decide_eq_true_eq]

/-- Settles O37, by the end cause: a stop by the part itself and an overcurrent decide the verdict alone, and after every other end
the findings do. -/
theorem verdictByFirstLine : Obligations.VerdictByFirstLine := by
  intro cause findings
  cases cause with
  | suspendedSupply | suspendedTemp | safeStop | softReset => rfl
  | overcurrent => rfl
  | releasedPin | releasedLink | selfTimed | holdExpired | disarmed => exact judgeFindings_eq_ite findings

end Sys2Proof.Machine
end

section
/-! The link port: which frames it rejects and what a rejection leaves (R185, R187), and what NOP answers (R194). -/

namespace Sys2Proof.Machine

/-! ### Length and check -/

/-- Eight bits make a byte, and bits left over make none (R184). -/
theorem bitsBytes_length : ∀ bits : List Bool, (bitsBytes bits).length = bits.length / 8
  | _ :: _ :: _ :: _ :: _ :: _ :: _ :: _ :: rest => by
    simp only [bitsBytes, List.length_cons, bitsBytes_length rest]; omega
  | [] | [_] | [_, _] | [_, _, _] | [_, _, _, _] | [_, _, _, _, _] | [_, _, _, _, _, _] | [_, _, _, _, _, _, _] => by
    simp [bitsBytes]

/-- Of twelve bytes the last is compared with the check byte over the others (R186). -/
theorem checkByteRight_iff {bs : List Byte} (h : bs.length = 12) :
    checkByteRight bs = true ↔ bs[11]? = some (crc8 (bs.take 11)) := by
  have last : bs.drop 11 = [bs[11]] := by
    rw [List.drop_eq_getElem_cons (by omega), List.drop_eq_nil_of_le (by omega)]
  rw [checkByteRight, last, List.getElem?_eq_getElem (by omega), beq_iff_eq, List.singleton_inj, Option.some_inj]

/-- A frame of any length but 96 bits is not accepted (R185). -/
theorem frameAccepted_of_length_ne {bits : List Bool} (h : bits.length ≠ 96) : frameAccepted bits = false := by
  rw [frameAccepted, Config.frameBits, beq_eq_false_iff_ne.mpr h, Bool.false_and]

/-- A frame of 96 bits is accepted by its check (R186). -/
theorem frameAccepted_iff_of_length {bits : List Bool} (h : bits.length = 96) :
    frameAccepted bits = true ↔ (bitsBytes bits)[11]? = some (crc8 ((bitsBytes bits).take 11)) := by
  rw [frameAccepted, Config.frameBits, beq_iff_eq.mpr h, Bool.true_and]
  exact checkByteRight_iff (by rw [bitsBytes_length, h])

/-! ### Rejection -/

/-- The code of the FRAME_REJECTED reply: byte 0 where all of its bits came in, and 0 otherwise (R187). -/
theorem rejectionReply_code (bits : List Bool) :
    (rejectionReply bits).code = if 8 ≤ bits.length then (bitsBytes bits).headD 0 else 0 := by
  have byte0 : (rejectionReply bits).code = (bitsBytes bits).headD 0 := List.headD_eq_getD.symm
  split
  · exact byte0
  · have none_whole : bitsBytes bits = [] := List.length_eq_zero_iff.mp (by rw [bitsBytes_length]; omega)
    rw [byte0, none_whole, List.headD_nil]

/-- The FRAME_REJECTED reply of a frame that is too short, too long, or of 96 bits with a check that fails (R187, R196). -/
theorem rejectionReply_eq (bits : List Bool) :
    rejectionReply bits =
      { result := .frameRejected
        code := if 8 ≤ bits.length then (bitsBytes bits).headD 0 else 0
        tag := if bits.length = 96 then some (((bitsBytes bits).getD 1 0).setWidth 4) else none
        data :=
          { b4 := if bits.length < 96 then 1 else if 96 < bits.length then 2 else 3
            b5 := BitVec.ofNat 8 (min 255 (bits.length / 8)) } } := by
  rw [← rejectionReply_code]
  rcases Nat.lt_trichotomy bits.length 96 with short | full | long
  · have reason : rejectReason bits = .short := if_pos short
    simp only [rejectionReply, reason, if_pos short, if_neg short.ne]
    rfl
  · have reason : rejectReason bits = .check := by simp [rejectReason, Config.frameBits, full]
    simp only [rejectionReply, reason, full, Nat.lt_irrefl, if_true, if_false]
    rfl
  · have reason : rejectReason bits = .long := by simp [rejectReason, Config.frameBits, long, long.le]
    simp only [rejectionReply, reason, if_pos long, if_neg long.le.not_gt, if_neg long.ne']
    rfl

/-- A rejection sets the COMM flag, closes the frame and prepares its reply, and nothing more (R187, R145). -/
theorem rejectFrame_of_open {s : State} (hr : s.inFullReset = false) (ho : s.link.frameOpen = true) (bits : List Bool) :
    rejectFrame bits s =
      { s with
        faults := { s.faults with comm := true }
        link :=
          { s.link with
            received := bits, frameOpen := false, shifted := min bits.length 96, prepared := rejectionReply bits } } := by
  have taken : s.frameTaken = true := by rw [State.frameTaken, hr, ho]; rfl
  rw [rejectFrame, if_pos taken]
  simp only [State.prepare, State.closeFrame, LinkPort.ended_eq ho]
  rfl

/-- Settles O6: the length is judged before the check, and what is not accepted is rejected with its reply. -/
theorem frameRejectedForItsLengthOrCheck : Obligations.FrameRejectedForItsLengthOrCheck := by
  intro bits s hr ho
  refine ⟨frameAccepted_of_length_ne, frameAccepted_iff_of_length, fun rejected => ?_⟩
  have run : exec (.frameRejected bits) s = .next (if frameAccepted bits then s else rejectFrame bits s) := rfl
  rw [run, if_neg (Bool.eq_false_iff.mp rejected), rejectFrame_of_open hr ho,
    rejectionReply_eq]

/-! ### NOP -/

/-- A byte that names no bits is all reserved. -/
theorem onlyNamed_zero_iff (b : Byte) : onlyNamed b 0 = true ↔ b = 0 := by
  rw [onlyNamed, beq_iff_eq]
  exact Eq.congr_left BitVec.and_allOnes

/-- Byte 1 of a request names its low four bits, the tag (12.1). -/
theorem onlyNamed_tag_iff (b : Byte) : onlyNamed b 0x0F = true ↔ b.toNat < 16 := by
  revert b; decide +kernel

/-- Every parameter bit of NOP is reserved (R194, R195). -/
theorem reservedClear_nop_iff (f : Frame) :
    reservedClear .nop f = true ↔
      f.b1.toNat < 16 ∧ [f.b2, f.b3, f.b4, f.b5, f.b6, f.b7, f.b8, f.b9, f.b10] = List.replicate 9 0 := by
  simp only [reservedClear, namedBits, Bool.and_eq_true, onlyNamed_zero_iff, onlyNamed_tag_iff, List.replicate,
    List.cons.injEq, and_true, and_assoc]

/-- Outside LOADING a reserved bit that is set is answered BAD_PARAM, whatever the owner would do (R188, R195). -/
theorem linkCommand_reserved {c : Command} {f : Frame} {s : State} (owner : State → State × Answer)
    (hr : s.inFullReset = false) (ho : s.link.frameOpen = true) (hm : s.modes.mode ≠ .loading)
    (hf : reservedClear c f = false) : linkCommand c f s owner = s.replied c f .badParam {} := by
  have taken : s.frameTaken = true := by rw [State.frameTaken, hr, ho]; rfl
  rw [← State.prepare_closeFrame ho, linkCommand, if_pos taken]
  rcases judge_eq c f (s.closeFrame (bytesBits (frameBytes (commandCode c) f))) owner with
    ⟨loading, _⟩ | ⟨_, _, judged⟩ | ⟨_, clear, _⟩ | ⟨_, clear, _⟩
  · exact absurd loading hm
  · rw [judged]
  · exact absurd clear (Bool.eq_false_iff.mp hf)
  · exact absurd clear (Bool.eq_false_iff.mp hf)

/-- Settles O8: with no parameter bit set the port admits NOP in every such mode, and otherwise refuses it as it does any command
with a reserved bit. -/
theorem nopChangesNothing : Obligations.NopChangesNothing := by
  intro f s hr ho hm
  have run : exec (.nop f) s = .next (linkCommand .nop f s fun t => okWith t {}) := rfl
  rw [run]
  constructor
  · intro tag zero
    have admitted : s.admits .nop f := ⟨hr, ho, hm, (reservedClear_nop_iff f).mpr ⟨tag, zero⟩, rfl⟩
    rw [linkCommand_reply _ admitted rfl]
  · intro nonzero
    have reserved : reservedClear .nop f = false :=
      Bool.eq_false_iff.mpr fun clear => nonzero ((reservedClear_nop_iff f).mp clear).2
    rw [linkCommand_reserved _ hr ho hm reserved]

end Sys2Proof.Machine
end

section
/-! What every step keeps, and the statements of the other families that stand beside it. The proofs are elaborated one after another:
each thread of the elaborator reserves its own stack, and the check bounds what they reserve together. -/

set_option Elab.async false


section
/-! What the updates of a state do twice or with what stood there, and that the end of an actuation reads and reaches the blocks of
the drive alone. -/

namespace Sys2Proof.Machine

/-! ### Updates of one item -/

theorem vector_set_get {α : Type} {n : Nat} (v : Vector α n) (i : Fin n) : v.set i.val (v.get i) i.isLt = v := by
  simp [Vector.get_eq_getElem]

theorem State.setDiag_self (s : State) (ch : ChannelId) : s.setDiag ch (s.diag ch) = s := by
  simp only [State.setDiag, State.diag, vector_set_get]

theorem State.setChannel_self (s : State) (ch : ChannelId) : s.setChannel ch (s.channel ch) = s := by
  simp only [State.setChannel, State.channel, vector_set_get]

theorem State.setChFault_self (s : State) (ch : ChannelId) : s.setChFault ch (s.chFault ch) = s := by
  simp only [State.setChFault, State.chFault, vector_set_get]

@[simp] theorem State.setDiag_setDiag (s : State) (ch : ChannelId) (u v : Diag) :
    (s.setDiag ch u).setDiag ch v = s.setDiag ch v := by
  simp [State.setDiag]

@[simp] theorem State.setChannel_setChannel (s : State) (ch : ChannelId) (c d : Channel) :
    (s.setChannel ch c).setChannel ch d = s.setChannel ch d := by
  simp [State.setChannel]

@[simp] theorem State.setChFault_setChFault (s : State) (ch : ChannelId) (f g : ChannelFault) :
    (s.setChFault ch f).setChFault ch g = s.setChFault ch g := by
  simp [State.setChFault]

/-! ### The diagnostic unit's due steps -/

theorem State.takeDip_eq_setDiag (s : State) (ch : ChannelId) (a : Actuation) :
    s.takeDip ch a = s.setDiag ch ((s.takeDip ch a).diag ch) := by
  unfold State.takeDip
  split
  · simp
  · exact (s.setDiag_self ch).symm

theorem State.takeSample_eq_setDiag (s : State) (ch : ChannelId) (a : Actuation) :
    s.takeSample ch a = s.setDiag ch ((s.takeSample ch a).diag ch) := by
  unfold State.takeSample
  split
  · simp
  · exact (s.setDiag_self ch).symm

/-- What the unit has due reaches the unit alone (R107). -/
theorem State.settleUnit_eq_setDiag (s : State) (ch : ChannelId) :
    s.settleUnit ch = s.setDiag ch ((s.settleUnit ch).diag ch) := by
  simp only [State.settleUnit]
  split
  · exact (s.setDiag_self ch).symm
  · next a _ =>
    calc (s.takeDip ch a).takeSample ch a
        = (s.takeDip ch a).setDiag ch (((s.takeDip ch a).takeSample ch a).diag ch) := State.takeSample_eq_setDiag _ ch a
      _ = s.setDiag ch (((s.takeDip ch a).takeSample ch a).diag ch) := by
        conv_lhs => rw [s.takeDip_eq_setDiag ch a]
        rw [State.setDiag_setDiag, ← s.takeDip_eq_setDiag ch a]

/-! ### The blocks that an actuation's end neither reads nor reaches -/

/-- The state with everything of another but the blocks of the drive: the profile table and the pool, the channels, their stages, units
and fault items. -/
def State.withRest (s r : State) : State :=
  { r with
    profiles := s.profiles, free := s.free, channels := s.channels, stages := s.stages, diags := s.diags
    faults := { r.faults with channels := s.faults.channels } }

section

variable (s r : State) (ch : ChannelId)

theorem State.takeDip_withRest (a : Actuation) : (s.withRest r).takeDip ch a = (s.takeDip ch a).withRest r := by
  have hd : (s.withRest r).diag ch = s.diag ch := rfl
  have hs : (s.withRest r).shapeOf a = s.shapeOf a := rfl
  simp only [State.takeDip, hd, hs]
  split <;> rfl

theorem State.takeSample_withRest (a : Actuation) : (s.withRest r).takeSample ch a = (s.takeSample ch a).withRest r := by
  have hd : (s.withRest r).diag ch = s.diag ch := rfl
  have hp : (s.withRest r).phaseOf a = s.phaseOf a := rfl
  simp only [State.takeSample, hd, hp]
  split <;> rfl

theorem State.settleUnit_withRest : (s.withRest r).settleUnit ch = (s.settleUnit ch).withRest r := by
  have hc : (s.withRest r).channel ch = s.channel ch := rfl
  simp only [State.settleUnit, hc]
  split
  · rfl
  · rw [State.takeDip_withRest, State.takeSample_withRest]

theorem State.disengage_withRest (p : ProfileId) (gen : Nat) (v : Verdict) :
    (s.withRest r).disengage p gen v = (s.disengage p gen v).withRest r := by
  have hk : (s.withRest r).kindOf p gen = s.kindOf p gen := rfl
  have hp : (s.withRest r).profile p = s.profile p := rfl
  have hl : ∀ w, (s.withRest r).loseDraining p w = (s.loseDraining p w).withRest r := fun w => by
    simp only [State.loseDraining]; split <;> rfl
  simp only [State.disengage, hk, hp, hl]
  split <;> split
  · rfl
  · rfl
  · rfl
  · split <;> rfl

theorem State.removeBinding_withRest : (s.withRest r).removeBinding ch = (s.removeBinding ch).withRest r := by
  have hc : (s.withRest r).channel ch = s.channel ch := rfl
  simp only [State.removeBinding, hc]
  split <;> rfl

theorem State.settleRecord_withRest : (s.withRest r).settleRecord ch = (s.settleRecord ch).withRest r := by
  have hc : (s.withRest r).channel ch = s.channel ch := rfl
  simp only [State.settleRecord, hc, State.removeBinding_withRest]
  split <;> rfl

/-- The end of an actuation reads and reaches the blocks of the drive alone. -/
theorem State.endActuation_withRest (cause : EndCause) :
    (s.withRest r).endActuation ch cause = (s.endActuation ch cause).withRest r := by
  have hc : (s.withRest r).channel ch = s.channel ch := rfl
  simp only [State.endActuation, hc]
  split
  · rfl
  · next a _ =>
    simp only [State.settleUnit_withRest]
    have step : ∀ u : State, (u.withRest r).stageOff ch = (u.stageOff ch).withRest r := fun _ => rfl
    have kind : ∀ u : State, (u.withRest r).kindOf a.profile a.gen = u.kindOf a.profile a.gen := fun _ => rfl
    have unit : ∀ u : State, (u.withRest r).diag ch = u.diag ch := fun _ => rfl
    have record : ∀ u : State, (u.withRest r).channel ch = u.channel ch := fun _ => rfl
    have replaced : ∀ (u : State) c, (u.withRest r).setChannel ch c = (u.setChannel ch c).withRest r := fun _ _ => rfl
    simp only [step, kind, unit, record, State.disengage_withRest, replaced, State.settleRecord_withRest]

/-- Stopping every channel reads and reaches the blocks of the drive alone. -/
theorem State.stopAll_withRest (cause : EndCause) : (s.withRest r).stopAll cause = (s.stopAll cause).withRest r := by
  have key : ∀ (l : List ChannelId) (s : State),
      l.foldl (fun s ch => s.abruptStop cause ch) (s.withRest r) =
        (l.foldl (fun s ch => s.abruptStop cause ch) s).withRest r := by
    intro l
    induction l with
    | nil => exact fun _ => rfl
    | cons c l ih =>
      intro s
      have first : (s.withRest r).abruptStop cause c = (s.abruptStop cause c).withRest r := s.endActuation_withRest r c cause
      rw [List.foldl_cons, List.foldl_cons, first, ih]
  exact key allChannels s

/-- Stopping every channel, where what was set before of the blocks that exist once may as well be set after it. -/
theorem State.stopAll_withBlocks (s : State) (cause : EndCause) (monitor : Monitor) (faults : FaultUnit) (modes : ModeControl)
    (store : Store) (hf : faults.channels = s.faults.channels) :
    ({ s with monitor := monitor, faults := faults, modes := modes, store := store } : State).stopAll cause =
      { s.stopAll cause with monitor := monitor, faults := faults, modes := modes, store := store } := by
  obtain ⟨hpending, hreset, hfaults, _, _, _, hloader, hlink⟩ := s.stopAll_rest cause
  have before : ({ s with monitor := monitor, faults := faults, modes := modes, store := store } : State) =
      s.withRest { s with monitor := monitor, faults := faults, modes := modes, store := store } := by
    simp only [State.withRest, ← hf]
  rw [before, State.stopAll_withRest]
  simp only [State.withRest, hpending, hreset, hfaults, hloader, hlink, ← hf]

end

end Sys2Proof.Machine
end


section
/-! The small moves of which every step is made: moves of the profile table, of one channel, and of the blocks that exist once; a full
reset; and, first of all in a step, at most one move of a store write. Each carries the conditions under which a step makes it. What
every step keeps is then shown move by move. -/

namespace Sys2Proof.Machine

/-- The moves of the profile table and the pool (Chapters 1 and 2, R22). -/
inductive TableMove : State → State → Prop
  | openEmpty (s : State) (p : ProfileId) (noDraft : (s.profile p).draft = none) (noLive : (s.profile p).live = none) :
    TableMove s (s.openEmpty p)
  | openCopy (s : State) (p : ProfileId) (v : Version) (noDraft : (s.profile p).draft = none)
    (live : (s.profile p).live = some v) (room : v.shape.size ≤ s.free) : TableMove s (s.openCopy p v)
  | discard (s : State) (p : ProfileId) : TableMove s (s.discard p)
  | makeLive (s : State) (p : ProfileId) (d : Shape) (draft : (s.profile p).draft = some d)
    (drained : (s.profile p).draining = none) (below : (s.profile p).highWater < Config.maxGeneration)
    (passes : runChecks d = .pass) : TableMove s (s.makeLive p d)
  | retire (s : State) (p : ProfileId) (loaded : s.modes.mode ≠ .loading) (unbound : (s.profile p).bindingCount = 0) :
    TableMove s (s.retireProfile p)
  | clear (s : State) (p : ProfileId) : TableMove s (s.setProfile p (s.profile p).cleared)
  /-- An entry or a group of fields rewritten. -/
  | rewrite (s : State) (p : ProfileId) (d d' : Shape) (draft : (s.profile p).draft = some d) (size : d'.size = d.size)
    (range : d.inRange → d'.inRange) : TableMove s (s.setDraft p d')
  | insert (s : State) (p : ProfileId) (d d' : Shape) (draft : (s.profile p).draft = some d) (size : d'.size = d.size + 1)
    (range : d.inRange → d'.inRange) (room : 0 < s.free) : TableMove s ((s.setDraft p d').allocate 1)
  | delete (s : State) (p : ProfileId) (d d' : Shape) (draft : (s.profile p).draft = some d) (size : d.size = d'.size + 1)
    (range : d.inRange → d'.inRange) : TableMove s ((s.setDraft p d').freeEntries 1)
  | fill (s : State) (p : ProfileId) (gen : Nat) (sh : Shape) (loading : s.modes.mode = .loading)
    (stored : ∃ slot id check, Cell.written (.profile id gen sh) check ∈ s.store.cells slot) : TableMove s (s.fill p gen sh)

/-- The moves of one channel: its record, its stage, its unit, its fault items, and the engagement and the binding that it holds at the
table (Chapters 4 to 8). -/
inductive ChannelMove (ch : ChannelId) : State → State → Prop
  | unit (s : State) (u : Diag) : ChannelMove ch s (s.setDiag ch u)
  /-- A running actuation goes on: on its version, never back from the release sequence, and keeping a release it holds. -/
  | run (s : State) (a b : Actuation) (running : (s.channel ch).running = some a) (profile : b.profile = a.profile)
    (gen : b.gen = a.gen)
    (held : b.seq = .energize → a.seq = .energize ∧ (a.heldFrom.isSome = true → b.heldFrom.isSome = true)) :
    ChannelMove ch s (s.setRunning ch b)
  | stage (s : State) (st : Stage)
    (idle : (s.channel ch).running = none → st.mode = (s.stage ch).mode ∧ st.duty = (s.stage ch).duty) :
    ChannelMove ch s (s.setStage ch st)
  | finish (s : State) (cause : EndCause) : ChannelMove ch s (s.endActuation ch cause)
  /-- A change of what the record holds beside its binding, its actuation, its check and its edge-armed flag. -/
  | record (s : State) (c : Channel) (binding : c.binding = (s.channel ch).binding)
    (pending : c.unbindPending = (s.channel ch).unbindPending) (running : c.running = (s.channel ch).running)
    (edge : c.edgeArmed = (s.channel ch).edgeArmed) (check : c.openLoadCheck = (s.channel ch).openLoadCheck) :
    ChannelMove ch s (s.setChannel ch c)
  | edge (s : State) (armed : Bool) (ready : armed = true → s.ready ch = true) : ChannelMove ch s (s.setEdge ch armed)
  | start (s t : State) (o : Origin) (p : ProfileId) (gen : Nat) (started : s.start ch o = some (t, p, gen))
    (ready : s.ready ch = true) (armed : s.modes.mode = .armed) : ChannelMove ch s t
  | pull (s : State) (r : PeriodReport) (idle : (s.channel ch).running = none) :
    ChannelMove ch s (s.setChFault ch ((s.chFault ch).period (s.channel ch).openLoadCheck r))
  | latch (s : State) (due : s.openLoadDue ch = true) : ChannelMove ch s (s.latchOpenLoad ch)
  | trip (s : State) (driving : (s.channel ch).running.isSome = true) : ChannelMove ch s (s.trip ch)
  | clear (s : State) : ChannelMove ch s (s.clearLatches ch)
  | soft (s : State) (idle : (s.channel ch).running = none) : ChannelMove ch s (s.softResetChannel ch)
  /-- A channel bound that was UNBOUND, or as the map copy binds it. -/
  | bind (s : State) (p : ProfileId)
    (allowed : ((s.channel ch).running = none ∧ (s.profile p).live.isSome = true) ∨
      (s.modes.mode = .loading ∧ s.loader.loaded.get p = true)) : ChannelMove ch s ((s.bindTo ch p).settleEdge ch)
  | rebind (s : State) (p : ProfileId) (idle : (s.channel ch).running = none) (live : (s.profile p).live.isSome = true)
    (bound : s.activity ch ≠ .unbound) : ChannelMove ch s (s.bindTo ch p)
  | unbindLater (s : State) (driving : (s.channel ch).running.isSome = true) :
    ChannelMove ch s (s.setChannel ch { s.channel ch with unbindPending := true })
  | unbind (s : State) (idle : (s.channel ch).running = none) : ChannelMove ch s (s.unbindNow ch)
  | settings (s : State) (t : TriggerSource) (check : Bool) : ChannelMove ch s (s.applySettings ch t check)

/-- The moves of the blocks that exist once: the link port and the queue, the monitor and the device flags, the mode controller, the
sessions and the loader (Chapters 8 to 11). None reaches the table or a channel. -/
inductive PartMove : State → State → Prop
  | link (s : State) (l : LinkPort) : PartMove s (s.withLink l)
  | resetEnds (s : State) : PartMove s { s with inFullReset := false }
  | faultSettings (s : State) (comm : Bool) (masks : Masks) (stretch : StretchSetting) (timer : Option Nat) :
    PartMove s { s with faults := { s.faults with comm := comm, masks := masks, stretch := stretch, timer := timer } }
  | measure (s : State) (vs : Nat) (temp : Int) (progOk : Bool) :
    PartMove s { s with monitor := { s.monitor with vs := vs, temp := temp, progOk := progOk } }
  | clearFlags (s : State) : PartMove s s.clearDeviceFlags
  /-- A condition sets in, and the part is not ARMED or becomes SUSPENDED. -/
  | onset (s : State) (uvm ovt : Bool) (m : PartMode) (some : uvm = true ∨ ovt = true)
    (mode : (s.modes.mode ≠ .armed ∧ m = s.modes.mode) ∨
      (s.modes.mode = .armed ∧ m = .suspended ∧ ∀ ch, (s.channel ch).running = none)) :
    PartMove s
      { s with
        monitor := { s.monitor with uvm := s.monitor.uvm || uvm, ovt := s.monitor.ovt || ovt }
        faults := { s.faults with uvm := s.faults.uvm || uvm, ovt := s.faults.ovt || ovt }
        modes := { s.modes with mode := m } }
  | clearUvm (s : State) : PartMove s s.clearUvm
  | clearOvt (s : State) : PartMove s s.clearOvt
  | arm (s : State) (standby : s.modes.mode = .standby) (uvm : s.monitor.uvm = false) (ovt : s.monitor.ovt = false)
    (session : s.store.session ≠ .isOpen) : PartMove s (s.setMode .armed)
  | standby (s : State) (loaded : s.modes.mode ≠ .loading)
    (released : ∀ ch a, (s.channel ch).running = some a → s.modes.mode = .armed → a.seq = .energize → a.heldFrom.isSome = true)
    (line : s.modes.nsafeSeen ≠ .asserted ∨ (s.modes.mode ≠ .safe)) :
    PartMove s (s.setMode .standby)
  | safe (s : State) (seen : LineLevel) (loaded : s.modes.mode ≠ .loading) (stopped : ∀ ch, (s.channel ch).running = none)
    (session : s.modes.mode = .standby → s.store.session ≠ .isOpen) :
    PartMove s { s with modes := { s.modes with mode := .safe, nsafeSeen := seen } }
  | see (s : State) (level : LineLevel) (safe : level = .asserted → s.modes.mode = .safe) : PartMove s (s.seeNsafe level)
  | remember (s : State) (loading : s.modes.mode = .loading) :
    PartMove s { s with modes := { s.modes with nsafeSeen := .asserted, nsafeRemembered := true } }
  | abandon (s : State) : PartMove s { s with store := s.store.abandon }
  | leaveStandby (s : State) : PartMove s { s with store := s.store.leaveStandby }
  | openSession (s : State) (standby : s.modes.mode = .standby) (unlocked : s.store.locked = false)
    (idle : s.store.inFlight = none) : PartMove s (s.setStore { s.store with session := .isOpen })
  | closeSession (s : State) (idle : s.store.inFlight = none) : PartMove s (s.setStore { s.store with session := .closed })
  | writePeriod (s : State) : PartMove s { s with store := s.store.writePeriod }
  | recordSlot (s : State) (slot : Slot) : PartMove s (s.recordSlot slot)
  | nextSlot (s : State) (slot : Slot) (next : s.loader.next = slot.val) (loading : s.modes.mode = .loading)
    (recorded : s.store.states slot = (s.store.cells slot).map (cellState slot)) : PartMove s s.nextSlot
  | request (s : State) (r : ArmRequest) : PartMove s { s with loader := { s.loader with request := r } }
  | loadLock (s : State) (loading : s.modes.mode = .loading) (next : s.loader.next = 33) : PartMove s s.loadLock.nextSlot

/-- A small move of a step. -/
inductive Effect : State → State → Prop
  | table {s t : State} (h : TableMove s t) : Effect s t
  | channel {s t : State} (ch : ChannelId) (h : ChannelMove ch s t) : Effect s t
  | part {s t : State} (h : PartMove s t) : Effect s t
  | fullReset (s : State) : Effect s s.toFullReset

/-- Small moves one after another. -/
def Effects (s t : State) : Prop := Relation.ReflTransGen Effect s t

/-- What a step does to a store write before anything else: nothing, a write begun on an accepted snapshot, or a write completed whose
3 ms have passed (R172 to R175). -/
inductive WriteMove : State → State → Prop
  | none (s : State) : WriteMove s s
  | begin (s : State) (slot : Slot) (copy : Nat) (snapshot : CopyContent) (loaded : s.modes.mode ≠ .loading)
    (session : s.store.session = .isOpen) (idle : s.store.inFlight = .none) (blank : s.store.lowestBlank slot = some copy)
    (taken : ∀ p gen sh, snapshot = .profile p gen sh → ∃ v, (s.profile p).live = some v ∧ v.gen = gen ∧ v.shape = sh) :
    WriteMove s (s.setStore (s.store.beginWrite slot copy snapshot))
  | settle (s : State) : WriteMove s { s with store := s.store.settleWrite }

/-- What a step makes of a state: at most one move of a store write, and small moves. -/
def Made (s t : State) : Prop := ∃ u, WriteMove s u ∧ Effects u t

namespace Effects

variable {s t u : State}

theorem refl (s : State) : Effects s s := Relation.ReflTransGen.refl

theorem trans (h : Effects s t) (k : Effects t u) : Effects s u := Relation.ReflTransGen.trans h k

theorem single (h : Effect s t) : Effects s t := Relation.ReflTransGen.single h

theorem table (h : TableMove s t) : Effects s t := single (.table h)

theorem channel {ch : ChannelId} (h : ChannelMove ch s t) : Effects s t := single (.channel ch h)

theorem part (h : PartMove s t) : Effects s t := single (.part h)

/-- What each small move keeps, small moves one after another keep. -/
theorem keeps {P : State → Prop} (hP : ∀ s t, Effect s t → P s → P t) (h : Effects s t) (hs : P s) : P t := by
  induction h with
  | refl => exact hs
  | tail _ last ih => exact hP _ _ last ih

theorem made (h : Effects s t) : Made s t := ⟨s, .none s, h⟩

/-- Effects at each place of a list make effects of their fold, where each keeps what the next asks for. -/
theorem foldl_of {α : Type} (P : State → Prop) (f : State → α → State) (hf : ∀ s x, P s → Effects s (f s x) ∧ P (f s x))
    (l : List α) (s : State) (hs : P s) : Effects s (l.foldl f s) ∧ P (l.foldl f s) := by
  induction l generalizing s with
  | nil => exact ⟨refl s, hs⟩
  | cons x l ih => exact ⟨(hf s x hs).1.trans (ih _ (hf s x hs).2).1, (ih _ (hf s x hs).2).2⟩

theorem foldl {α : Type} (f : State → α → State) (hf : ∀ s x, Effects s (f s x)) (l : List α) (s : State) :
    Effects s (l.foldl f s) :=
  (foldl_of (fun _ => True) f (fun s x _ => ⟨hf s x, trivial⟩) l s trivial).1

end Effects

theorem Made.refl (s : State) : Made s s := (Effects.refl s).made

/-! ### An actuation -/

theorem State.settleUnit_effects (s : State) (ch : ChannelId) : Effects s (s.settleUnit ch) := by
  rw [s.settleUnit_eq_setDiag ch]
  exact .channel (.unit s _)

/-- What the unit has due leaves the channel's record. -/
theorem State.settleUnit_channel (s : State) (ch c : ChannelId) : (s.settleUnit ch).channel c = s.channel c := by
  rw [s.settleUnit_eq_setDiag ch]; rfl

theorem State.enterRelease_effects (s : State) (ch : ChannelId) (cause : EndCause) : Effects s (s.enterRelease ch cause) := by
  simp only [State.enterRelease]
  split
  · exact .refl _
  · next a ha =>
    have closed : Effects s ((s.settleUnit ch).closeSearch ch a) :=
      (s.settleUnit_effects ch).trans (.channel (.unit _ _))
    have running : (((s.settleUnit ch).closeSearch ch a).channel ch).running = some a := by
      rw [State.closeSearch_channel, s.settleUnit_channel ch, ha]
    split
    · exact closed.trans (.channel (.finish _ cause))
    · exact closed.trans (.channel (.run _ a _ running rfl rfl (by simp)))

theorem State.endPhase_effects (s : State) (ch : ChannelId) : Effects s (s.endPhase ch) := by
  simp only [State.endPhase]
  split
  · exact .refl _
  · next a ha =>
    split
    · next hq =>
      split
      · have running : ((s.settleUnit ch).channel ch).running = some a := by rw [s.settleUnit_channel ch, ha]
        split
        · exact ((s.settleUnit_effects ch).trans (.channel (.unit _ _))).trans
            (.channel (.run _ a _ running rfl rfl (by simp [hq])))
        · exact (s.settleUnit_effects ch).trans (.channel (.run _ a _ running rfl rfl (by simp [hq])))
      · exact s.enterRelease_effects ch _
    · split
      · exact .channel (.run s a _ ha rfl rfl (by simp))
      · exact .channel (.finish s _)

theorem State.requestRelease_effects (s : State) (ch : ChannelId) (a : Actuation) (source : ReleaseSource)
    (ha : (s.channel ch).running = some a) : Effects s (s.requestRelease ch a source).1 := by
  rcases s.requestRelease_cases ch a source with ⟨_, e⟩ | ⟨_, _, e⟩ | ⟨_, _, e⟩ <;> rw [e]
  · exact .refl _
  · exact s.enterRelease_effects ch _
  · exact .channel (.run s a _ ha rfl rfl fun hq => ⟨hq, fun _ => rfl⟩)

theorem State.settleDue_effects (s : State) (ch : ChannelId) : Effects s (s.settleDue ch) := by
  refine (s.settleUnit_effects ch).trans ?_
  simp only [State.settleDue, State.settleEnds]
  split
  · exact .refl _
  · split
    · exact State.enterRelease_effects _ ch _
    · split
      · exact State.enterRelease_effects _ ch _
      · split
        · exact State.endPhase_effects _ ch
        · exact .refl _

theorem State.settleChannel_effects (s : State) (ch : ChannelId) : Effects s (s.settleChannel ch) := by
  rcases s.settleChannel_cases ch with ⟨due, e⟩ | ⟨_, e⟩ <;> rw [e]
  · exact (s.settleDue_effects ch).trans (.channel (.latch _ due))
  · exact s.settleDue_effects ch

theorem State.drivenPeriod_effects (s : State) (ch : ChannelId) (a : Actuation) (r : PeriodReport)
    (ha : (s.channel ch).running = some a) : Effects s (s.drivenPeriod ch a r) := by
  simp only [State.drivenPeriod]
  split
  · exact .channel (.stage s _ fun hn => by rw [ha] at hn; cases hn)
  · next ph _ =>
    have worked : Effects s (s.setStage ch ((s.stage ch).period ph a.entryCurrent (a.phaseTime + 1) r)) :=
      .channel (.stage s _ fun hn => by rw [ha] at hn; cases hn)
    have timed := worked.trans (.channel (.run _ a { a with time := a.time + 1, phaseTime := a.phaseTime + 1 } ha rfl rfl
      fun hq => ⟨hq, id⟩))
    split
    · exact (timed.trans (.channel (.unit _ _))).trans (State.endPhase_effects _ ch)
    · exact timed.trans (.channel (.unit _ _))

theorem State.idlePeriod_effects (s : State) (ch : ChannelId) (r : PeriodReport) (idle : (s.channel ch).running = none) :
    Effects s (s.idlePeriod ch r) := by
  have measured : Effects s (s.setStage ch { s.stage ch with sensed := min Config.maxSensed r.sensed }) :=
    .channel (.stage s _ fun _ => ⟨rfl, rfl⟩)
  exact measured.trans (.channel (.pull _ r idle))

/-! ### The line -/

theorem State.seeLine_effects (s : State) (ch : ChannelId) (level : CtlSeen) : Effects s (s.seeLine ch level) :=
  .channel (.record s _ rfl rfl rfl rfl rfl)

theorem State.lineAsserted_effects (s : State) (ch : ChannelId) : Effects s (s.lineAsserted ch) := by
  refine (s.seeLine_effects ch .asserted).trans ?_
  simp only [State.lineAsserted]
  split
  · next ready =>
    unfold State.pinStart
    split
    · next allowed =>
      have armed : (s.seeLine ch .asserted).modes.mode = .armed := by
        simp only [State.pinStartAllowed, Bool.and_eq_true, decide_eq_true_eq] at allowed
        exact allowed.1.2
      split
      · next t p gen started => exact .channel (.start _ t .pin p gen started ready armed)
      · exact .channel (.edge _ false (by simp))
    · exact .channel (.edge _ false (by simp))
  · exact .refl _

theorem State.lineDeasserted_effects (s : State) (ch : ChannelId) : Effects s (s.lineDeasserted ch) := by
  refine (s.seeLine_effects ch .deasserted).trans ?_
  simp only [State.lineDeasserted]
  split
  · next a ha =>
    unfold State.pinRelease
    split
    · exact State.requestRelease_effects _ ch a .pin ha
    · exact .refl _
  · split
    · next ready => exact .channel (.edge _ true fun _ => ready)
    · exact .refl _

theorem State.sampleLine_effects (s : State) (ch : ChannelId) (level : LineLevel) : Effects s (s.sampleLine ch level) := by
  rcases s.sampleLine_cases ch level with ⟨_, e⟩ | ⟨_, e⟩ | ⟨_, _, e⟩ | ⟨_, _, e⟩ <;> rw [e]
  · exact s.seeLine_effects ch _
  · exact .refl _
  · exact s.lineAsserted_effects ch
  · exact s.lineDeasserted_effects ch

theorem State.channelPeriod_effects (s : State) (ch : ChannelId) (r : PeriodReport) : Effects s (s.channelPeriod ch r) := by
  refine ((s.settleChannel_effects ch).trans ?_).trans (State.sampleLine_effects _ ch r.ctl)
  split
  · next a ha => exact State.drivenPeriod_effects _ ch a r ha
  · next idle => exact State.idlePeriod_effects _ ch r idle

/-! ### The part -/

theorem State.stopAll_effects (s : State) (cause : EndCause) : Effects s (s.stopAll cause) :=
  Effects.foldl _ (fun s ch => .channel (ch := ch) (.finish s cause)) allChannels s

/-- Every channel stopped: a state that effects reach, and the blocks that exist once set before the stop are set after it. -/
theorem State.stopAll_reached (s : State) (cause : EndCause) : ∃ u, Effects s u ∧ (∀ ch, (u.channel ch).running = none) ∧
    u.faults = s.faults ∧ u.monitor = s.monitor ∧ u.modes = s.modes ∧ u.store = s.store ∧
    ∀ (monitor : Monitor) (faults : FaultUnit) (modes : ModeControl) (store : Store), faults.channels = s.faults.channels →
      ({ s with monitor := monitor, faults := faults, modes := modes, store := store } : State).stopAll cause =
        { u with monitor := monitor, faults := faults, modes := modes, store := store } := by
  obtain ⟨_, _, hfaults, hmonitor, hmodes, hstore, _, _⟩ := s.stopAll_rest cause
  exact ⟨s.stopAll cause, s.stopAll_effects cause, s.stopAll_running cause, hfaults, hmonitor, hmodes, hstore,
    s.stopAll_withBlocks cause⟩

/-- The entry to SAFE, with the level of nSAFE that is seen then (R155, R156). -/
theorem State.enterSafe_effects (s : State) (seen : LineLevel) (loaded : s.modes.mode ≠ .loading) :
    Effects s (s.seeNsafe seen).enterSafe := by
  obtain ⟨u, reached, stopped, hfaults, hmonitor, hmodes, hstore, set⟩ := s.stopAll_reached .safeStop
  have enter : ∀ st : Store, (s.modes.mode = .standby → st.session ≠ .isOpen) → Effects { u with store := st }
      ((({ s.seeNsafe seen with store := st } : State).stopAll .safeStop).setMode .safe) := by
    intro st closed
    have stop : ({ s.seeNsafe seen with store := st } : State).stopAll .safeStop =
        { u with modes := { u.modes with nsafeSeen := seen }, store := st } :=
      (set s.monitor s.faults { s.modes with nsafeSeen := seen } st rfl).trans (by rw [← hmonitor, ← hfaults, ← hmodes])
    rw [stop]
    exact .part (.safe { u with store := st } seen (hmodes ▸ loaded) stopped (hmodes ▸ closed))
  by_cases hm : s.modes.mode = .standby
  · rw [(s.seeNsafe seen).enterSafe_eq.1 hm]
    have left : Effects s { u with store := s.store.leaveStandby } := hstore ▸ reached.trans (.part (.leaveStandby u))
    refine left.trans (enter _ fun _ => ?_)
    unfold Store.leaveStandby
    cases hs : s.store.session with
    | isOpen => cases hf : s.store.inFlight <;> simp
    | closed | closing => simp [hs]
  · rw [(s.seeNsafe seen).enterSafe_eq.2 hm]
    have same : Effects s { u with store := s.store } := hstore ▸ reached
    exact same.trans (enter s.store fun standby => absurd standby hm)

theorem State.sampleNsafe_effects (s : State) (level : LineLevel) : Effects s (s.sampleNsafe level) := by
  rcases s.sampleNsafe_cases level with ⟨_, e⟩ | ⟨_, hm, e⟩ | ⟨_, hm, e⟩ | ⟨_, hm, _, e⟩ <;> rw [e]
  · exact .part (.see s _ (by simp))
  · exact .part (.remember s hm)
  · exact .part (.see s _ fun _ => hm)
  · exact s.enterSafe_effects _ hm

/-! ### The monitor (R141, R142, R144) -/

/-- Onsets of conditions, their flags set and the stretch timer as it becomes: an ARMED part is suspended (R144, R160). -/
theorem State.onset_effects (s : State) (cause : EndCause) (uvm ovt : Bool) (present : uvm = true ∨ ovt = true) (timer : Option Nat) :
    Effects s
      (({ s with
        monitor := { s.monitor with uvm := s.monitor.uvm || uvm, ovt := s.monitor.ovt || ovt }
        faults := { s.faults with uvm := s.faults.uvm || uvm, ovt := s.faults.ovt || ovt, timer := timer } } : State).suspend cause) := by
  rcases State.suspend_cases ({ s with
      monitor := { s.monitor with uvm := s.monitor.uvm || uvm, ovt := s.monitor.ovt || ovt }
      faults := { s.faults with uvm := s.faults.uvm || uvm, ovt := s.faults.ovt || ovt, timer := timer } }) cause with
    ⟨armed, e⟩ | ⟨other, e⟩ <;> rw [e]
  · obtain ⟨u, reached, stopped, hfaults, hmonitor, hmodes, hstore, set⟩ := s.stopAll_reached cause
    have stop := set { s.monitor with uvm := s.monitor.uvm || uvm, ovt := s.monitor.ovt || ovt }
      { s.faults with uvm := s.faults.uvm || uvm, ovt := s.faults.ovt || ovt, timer := timer } s.modes s.store rfl
    have timed : Effects s { u with faults := { u.faults with timer := timer } } :=
      reached.trans (.part (.faultSettings u u.faults.comm u.faults.masks u.faults.stretch timer))
    refine timed.trans (stop ▸ ?_)
    rw [← hmonitor, ← hfaults, ← hstore, ← hmodes]
    exact .part (.onset { u with faults := { u.faults with timer := timer } } uvm ovt .suspended present
      (.inr ⟨hmodes ▸ armed, rfl, stopped⟩))
  · have timed : Effects s { s with faults := { s.faults with timer := timer } } :=
      .part (.faultSettings s s.faults.comm s.faults.masks s.faults.stretch timer)
    exact timed.trans (.part (.onset { s with faults := { s.faults with timer := timer } } uvm ovt s.modes.mode present
      (.inl ⟨other, rfl⟩)))

theorem FaultUnit.startStretch_eq (u : FaultUnit) (masked : Bool) :
    u.startStretch masked = { u with timer := (u.startStretch masked).timer } := by
  unfold FaultUnit.startStretch
  split <;> rfl

theorem State.onsetUvm_effects (s : State) : Effects s s.onsetUvm := by
  have h := s.onset_effects .suspendedSupply true false (.inl rfl)
    (({ s.faults with uvm := true } : FaultUnit).startStretch s.faults.masks.uvm).timer
  simp only [Bool.or_true, Bool.or_false] at h
  rw [State.onsetUvm, FaultUnit.startStretch_eq]
  exact h

theorem State.onsetOvt_effects (s : State) : Effects s s.onsetOvt := by
  have h := s.onset_effects .suspendedTemp false true (.inr rfl)
    (({ s.faults with ovt := true } : FaultUnit).startStretch s.faults.masks.ovt).timer
  simp only [Bool.or_true, Bool.or_false] at h
  rw [State.onsetOvt, FaultUnit.startStretch_eq]
  exact h

theorem State.measureVs_effects (s : State) (vs : Nat) : Effects s (s.measureVs vs) := by
  have measured : Effects s { s with monitor := { s.monitor with vs := min Config.maxVs vs } } :=
    .part (.measure s _ s.monitor.temp s.monitor.progOk)
  have judged : ∀ u : State, Effects u (u.judgeUvm vs) := fun u => by
    rcases u.judgeUvm_cases vs with ⟨_, _, e⟩ | ⟨_, _, e⟩ | e <;> rw [e]
    · exact u.onsetUvm_effects
    · exact .part (.clearUvm u)
    · exact .refl u
  have prog : ∀ u : State, Effects u (u.judgeProgOk vs) := fun u => by
    rcases u.judgeProgOk_cases vs with ⟨_, _, e⟩ | ⟨_, _, e⟩ | e <;> rw [e]
    · exact .part (.measure u u.monitor.vs u.monitor.temp true)
    · have lost : Effects u { u with monitor := { u.monitor with progOk := false } } :=
        .part (.measure u u.monitor.vs u.monitor.temp false)
      exact lost.trans (.part (.abandon _))
    · exact .refl u
  exact (measured.trans (judged _)).trans (prog _)

theorem State.measureTemp_effects (s : State) (temp : Int) : Effects s (s.measureTemp temp) := by
  have measured : Effects s { s with monitor := { s.monitor with temp := max Config.minTemp (min Config.maxTemp temp) } } :=
    .part (.measure s s.monitor.vs _ s.monitor.progOk)
  refine measured.trans ?_
  unfold State.measureTemp
  rcases State.judgeOvt_cases ({ s with monitor := { s.monitor with temp := max Config.minTemp (min Config.maxTemp temp) } })
    temp with ⟨_, _, e⟩ | ⟨_, _, e⟩ | e <;> rw [e]
  · exact State.onsetOvt_effects _
  · exact .part (.clearOvt _)
  · exact .refl _

theorem State.sharedPeriod_made (s : State) (vs vdd : Nat) (temp : Int) (nsafe : LineLevel) :
    Made s (s.sharedPeriod vs vdd temp nsafe) := by
  unfold State.sharedPeriod
  split
  · exact (Effects.single (.fullReset s)).made
  · have counted : Made s s.sharedCounts :=
      ⟨_, .settle s, (Effects.part (.writePeriod _)).trans
        (.part (.faultSettings _ s.faults.comm s.faults.masks s.faults.stretch (stretchPeriod s.faults.timer)))⟩
    obtain ⟨u, write, reached⟩ := counted
    exact ⟨u, write, ((reached.trans (State.measureVs_effects _ vs)).trans (State.measureTemp_effects _ temp)).trans
      (State.sampleNsafe_effects _ nsafe)⟩

/-! ### DISARM and SOFT_RESET -/

/-- What a fold over the channels, each step reaching its own channel, makes of a channel's record, where every step makes it of its
own. -/
theorem foldl_each (f : State → ChannelId → State) (hf : ∀ s ch, ChannelOnly ch s (f s ch)) (Q : Channel → Prop)
    (hQ : ∀ s ch, Q ((f s ch).channel ch)) (s : State) (c : ChannelId) : Q ((allChannels.foldl f s).channel c) := by
  have key : ∀ (l : List ChannelId) (s : State), c ∈ l → Q ((l.foldl f s).channel c) := by
    intro l
    induction l with
    | nil => intro s h; cases h
    | cons d l ih =>
      intro s h
      rw [List.foldl_cons]
      by_cases hl : c ∈ l
      · exact ih _ hl
      · obtain rfl : c = d := by simpa [hl] using h
        rw [foldl_channelOnly f hf l _ c hl]
        exact hQ s c
  exact key allChannels s (mem_allChannels c)

/-- A channel that has left the energize sequence is in its release sequence or has ended. -/
theorem State.enterRelease_running (s : State) (ch : ChannelId) (cause : EndCause) (b : Actuation)
    (hb : ((s.enterRelease ch cause).channel ch).running = some b) : b.seq = .release := by
  simp only [State.enterRelease] at hb
  split at hb
  · next hn => rw [hn] at hb; cases hb
  · split at hb
    · rw [State.endActuation_running] at hb; cases hb
    · simp only [State.moveTo, State.setRunning, State.channel_setChannel_same, Option.some.injEq] at hb
      rw [← hb]

theorem ChannelOnly.disarmChannel (s : State) (ch : ChannelId) : ChannelOnly ch s (s.disarmChannel ch) := by
  unfold State.disarmChannel
  split
  · exact .refl ch s
  · split
    · exact .requestRelease s ch _ _
    · exact .refl ch s

/-- A channel's energize sequence goes on after DISARM with a release held (R97). -/
def Channel.released (c : Channel) : Prop := ∀ a, c.running = some a → a.seq = .energize → a.heldFrom.isSome = true

theorem State.disarmChannel_released (s : State) (ch : ChannelId) : ((s.disarmChannel ch).channel ch).released := by
  intro b hb hq
  unfold State.disarmChannel at hb
  split at hb
  · next hn => rw [hn] at hb; cases hb
  · next a ha =>
    split at hb
    · rcases s.requestRelease_cases ch a .disarm with ⟨held, e⟩ | ⟨_, _, e⟩ | ⟨_, _, e⟩ <;> rw [e] at hb
      · rw [ha, Option.some.injEq] at hb; exact hb ▸ held
      · rw [s.enterRelease_running ch _ b hb] at hq; cases hq
      · simp only [State.setRunning, State.channel_setChannel_same, Option.some.injEq] at hb
        rw [← hb]; rfl
    · next hr => rw [ha, Option.some.injEq] at hb; rw [← hb, hr] at hq; cases hq

theorem State.disarmChannel_effects (s : State) (ch : ChannelId) : Effects s (s.disarmChannel ch) := by
  unfold State.disarmChannel
  split
  · exact .refl s
  · next a ha =>
    split
    · exact s.requestRelease_effects ch a .disarm ha
    · exact .refl s

theorem State.disarm_effects (s : State) : Effects s s.disarm := by
  unfold State.disarm
  split
  · next armed =>
    have kept := (foldl_rest State.disarmChannel ChannelOnly.disarmChannel allChannels s).2.2.2.2.1
    refine (Effects.foldl State.disarmChannel State.disarmChannel_effects allChannels s).trans (.part (.standby _ ?_ ?_ ?_))
    · rw [kept, armed]; simp
    · exact fun ch a ha _ => foldl_each State.disarmChannel ChannelOnly.disarmChannel Channel.released
        State.disarmChannel_released s ch a ha
    · rw [kept, armed]; exact .inr (by simp)
  · next suspended =>
    exact .part (.standby s (by simp [suspended]) (by simp [suspended]) (.inr (by simp [suspended])))
  · exact .refl s
  · exact .refl s
  · exact .refl s

theorem State.softResetProfile_effects (s : State) (p : ProfileId) : Effects s (s.softResetProfile p) := by
  unfold State.softResetProfile
  split
  · exact .table (.discard s p)
  · exact .refl s

/-- What the steps of a soft reset between its stop and its end leave: every channel stopped, the mode controller and the store. -/
structure SoftlyStopped (s u : State) : Prop where
  stopped : ∀ ch, (u.channel ch).running = none
  modes : u.modes = s.modes
  store : u.store = s.store

theorem SoftlyStopped.profile {s u : State} (h : SoftlyStopped s u) (p : ProfileId) : SoftlyStopped s (u.softResetProfile p) := by
  unfold State.softResetProfile
  split
  · exact ⟨h.stopped, h.modes, h.store⟩
  · exact h

theorem SoftlyStopped.channel {s u : State} (h : SoftlyStopped s u) (ch : ChannelId) :
    SoftlyStopped s (u.softResetChannel ch) :=
  ⟨fun c => (State.settleEdge_running _ ch c).trans (h.stopped c), h.modes, h.store⟩

/-- The last of a soft reset: the session ended, the mode chosen by the level of nSAFE, the receive buffer emptied (R163). -/
def State.endSoftReset (s : State) : State :=
  { s with
    store := s.store.abandon
    modes := { s.modes with mode := if s.modes.nsafeSeen = .asserted then .safe else .standby }
    link := { s.link with received := [] } }

theorem State.softReset_eq (s : State) :
    s.softReset =
      (allChannels.foldl State.softResetChannel
        (allProfiles.foldl State.softResetProfile (s.stopAll .softReset)).clearDeviceFlags).endSoftReset := rfl

theorem State.endSoftReset_effects {s u : State} (loaded : s.modes.mode ≠ .loading) (h : SoftlyStopped s u) :
    Effects u u.endSoftReset := by
  have abandoned : Effects u { u with store := u.store.abandon } := .part (.abandon u)
  have hloaded : u.modes.mode ≠ .loading := h.modes ▸ loaded
  have moded : Effects u { u with
      store := u.store.abandon
      modes := { u.modes with mode := if u.modes.nsafeSeen = .asserted then .safe else .standby } } := by
    refine abandoned.trans ?_
    split
    · have closed : u.store.abandon.session ≠ .isOpen := by simp [u.store.abandon_frame.1]
      exact .part (.safe { u with store := u.store.abandon } u.modes.nsafeSeen hloaded h.stopped fun _ => closed)
    · next deasserted =>
      exact .part (.standby { u with store := u.store.abandon } hloaded
        (fun ch a ha => absurd (ha.symm.trans (h.stopped ch)) (by simp)) (.inl deasserted))
  exact moded.trans (.part (.link _ { u.link with received := [] }))

theorem State.softReset_effects (s : State) (loaded : s.modes.mode ≠ .loading) : Effects s s.softReset := by
  obtain ⟨_, _, _, _, hmodes, hstore, _, _⟩ := s.stopAll_rest .softReset
  have stopped : SoftlyStopped s (s.stopAll .softReset) := ⟨s.stopAll_running .softReset, hmodes, hstore⟩
  obtain ⟨discards, kept⟩ := Effects.foldl_of (SoftlyStopped s) State.softResetProfile
    (fun u p h => ⟨u.softResetProfile_effects p, h.profile p⟩) allProfiles _ stopped
  rw [State.softReset_eq]
  generalize allProfiles.foldl State.softResetProfile (s.stopAll .softReset) = u at discards kept ⊢
  obtain ⟨resets, reset⟩ := Effects.foldl_of (SoftlyStopped s) State.softResetChannel
    (fun u ch h => ⟨.channel (.soft u (h.stopped ch)), h.channel ch⟩) allChannels u.clearDeviceFlags
    ⟨kept.stopped, kept.modes, kept.store⟩
  exact ((((s.stopAll_effects .softReset).trans discards).trans (.part (.clearFlags u))).trans resets).trans
    (State.endSoftReset_effects loaded reset)

end Sys2Proof.Machine
end


section
/-! Every step is made of the small moves: the edits of a draft, the load, the owners of the link commands, and each row. -/

namespace Sys2Proof.Machine

/-! ### Entries, fields and shapes of requests -/

/-- An entry that a request writes is one that the part keeps (R27). -/
theorem entryOf_kept {f : Frame} {e : PhaseEntry} (h : entryOf f = some e) : e.kept = true := by
  unfold entryOf at h
  split at h
  · cases h
  · simp only [Option.ite_none_right_eq_some, Option.some.injEq] at h
    obtain ⟨kept, rfl⟩ := h
    exact kept

/-- A field group that a request writes leaves a version's fields in their ranges (R28, R38). -/
theorem fieldsOf_kept {f : Frame} {old v : Fields} (h : fieldsOf f old = some v) (hold : old.kept = true) : v.kept = true := by
  simp only [Fields.kept, Bool.and_eq_true] at hold
  obtain ⟨⟨⟨⟨⟨⟨⟨hmin, hcap⟩, htol⟩, hdip⟩, hper⟩, htravel⟩, hres⟩, hthr⟩ := hold
  unfold fieldsOf at h
  split at h
  · simp only [timingOf, Option.ite_none_right_eq_some, Option.some.injEq, Bool.and_eq_true] at h
    obtain ⟨⟨⟨⟨h1, h2⟩, h3⟩, h4⟩, rfl⟩ := h
    simp only [Fields.kept, h1, h2, h3, h4, hdip, hper, htravel, hres, Bool.and_self]
  · split at h
    · simp only [motionOf, Option.ite_none_right_eq_some, Option.some.injEq, Bool.and_eq_true] at h
      obtain ⟨⟨⟨h1, h2⟩, h3⟩, rfl⟩ := h
      simp only [Fields.kept, hmin, hcap, htol, h1, h2, h3, hres, hthr, Bool.and_self]
    · split at h
      · simp only [resistanceOf, Option.ite_none_right_eq_some, Option.some.injEq] at h
        obtain ⟨h1, rfl⟩ := h
        simp only [Fields.kept, hmin, hcap, htol, hdip, hper, htravel, h1, hthr, Bool.and_self]
      · cases h

@[simp] theorem Shape.seqOf_withSeq_same (d : Shape) (q : Seq) (es : List PhaseEntry) : (d.withSeq q es).seqOf q = es := by
  cases q <;> rfl

theorem Shape.seqOf_withSeq_of_ne (d : Shape) {q r : Seq} (h : r ≠ q) (es : List PhaseEntry) :
    (d.withSeq q es).seqOf r = d.seqOf r := by
  cases q with
  | energize =>
    cases r with
    | energize => exact absurd rfl h
    | release => rfl
  | release =>
    cases r with
    | energize => rfl
    | release => exact absurd rfl h

@[simp] theorem Shape.fields_withSeq (d : Shape) (q : Seq) (es : List PhaseEntry) : (d.withSeq q es).fields = d.fields := by
  cases q <;> rfl

/-- The entries of a shape are those of its other sequence and those of the one replaced. -/
theorem Shape.size_withSeq (d : Shape) (q : Seq) (es : List PhaseEntry) :
    (d.withSeq q es).size + (d.seqOf q).length = d.size + es.length := by
  cases q <;> simp only [Shape.withSeq, Shape.seqOf, Shape.size] <;> omega

theorem Shape.inRange_iff (d : Shape) :
    d.inRange ↔ (∀ q, (d.seqOf q).length ≤ maxCount q ∧ ∀ e ∈ d.seqOf q, e.kept = true) ∧ d.fields.kept = true := by
  simp only [Shape.inRange, List.forall_mem_append]
  constructor
  · rintro ⟨hl, hr, ⟨he, hf⟩, hk⟩
    refine ⟨fun q => ?_, hk⟩
    cases q
    · exact ⟨hl, he⟩
    · exact ⟨hr, hf⟩
  · rintro ⟨h, hk⟩
    exact ⟨(h .energize).1, (h .release).1, ⟨(h .energize).2, (h .release).2⟩, hk⟩

/-- A sequence in range in the place of one of a shape in range. -/
theorem Shape.inRange.withSeq {d : Shape} (h : d.inRange) {q : Seq} {es : List PhaseEntry} (count : es.length ≤ maxCount q)
    (kept : ∀ e ∈ es, e.kept = true) : (d.withSeq q es).inRange := by
  rw [Shape.inRange_iff] at h ⊢
  refine ⟨fun r => ?_, by rw [Shape.fields_withSeq]; exact h.2⟩
  by_cases hr : r = q
  · subst hr; rw [Shape.seqOf_withSeq_same]; exact ⟨count, kept⟩
  · rw [Shape.seqOf_withSeq_of_ne d hr]; exact h.1 r

theorem Shape.inRange.seqOf {d : Shape} (h : d.inRange) (q : Seq) :
    (d.seqOf q).length ≤ maxCount q ∧ ∀ e ∈ d.seqOf q, e.kept = true :=
  ((Shape.inRange_iff d).mp h).1 q

theorem Shape.inRange.setEntry {d : Shape} (h : d.inRange) (q : Seq) (i : Nat) {e : PhaseEntry} (he : e.kept = true) :
    (d.setEntry q i e).inRange := by
  obtain ⟨count, kept⟩ := h.seqOf q
  refine h.withSeq (by rw [List.length_set]; exact count) fun x hx => ?_
  rcases List.mem_or_eq_of_mem_set hx with hx | rfl
  · exact kept x hx
  · exact he

theorem Shape.inRange.insertEntry {d : Shape} (h : d.inRange) {q : Seq} (i : Nat) {e : PhaseEntry} (he : e.kept = true)
    (room : (d.seqOf q).length < maxCount q) : (d.insertEntry q i e).inRange := by
  obtain ⟨_, kept⟩ := h.seqOf q
  refine h.withSeq ?_ fun x hx => ?_
  · rw [List.length_insertIdx]; split <;> omega
  · rcases List.eq_or_mem_of_mem_insertIdx hx with rfl | hx
    · exact he
    · exact kept x hx

theorem Shape.inRange.deleteEntry {d : Shape} (h : d.inRange) (q : Seq) (i : Nat) : (d.deleteEntry q i).inRange := by
  obtain ⟨count, kept⟩ := h.seqOf q
  exact h.withSeq ((List.length_eraseIdx_le ..).trans count) fun x hx => kept x (List.mem_of_mem_eraseIdx hx)

/-! ### The table's commands -/

theorem refuse_effects (s : State) (r : ResultCode) : Effects s (refuse s r).1 := .refl s

theorem withProfile_effects {b : Byte} {s : State} {k : ProfileId → State × Answer} (h : ∀ p, Effects s (k p).1) :
    Effects s (withProfile b s k).1 := by
  rcases withProfile_eq b s k with ⟨_, e⟩ | ⟨p, _, e⟩ <;> rw [e]
  · exact refuse_effects s _
  · exact h p

theorem withDraft_effects {b : Byte} {s : State} {k : ProfileId → Shape → State × Answer}
    (h : ∀ p d, (s.profile p).draft = some d → Effects s (k p d).1) : Effects s (withDraft b s k).1 := by
  rcases withDraft_eq b s k with ⟨_, e⟩ | ⟨p, _, _, e⟩ | ⟨p, d, _, hd, e⟩ <;> rw [e]
  · exact refuse_effects s _
  · exact refuse_effects s _
  · exact h p d hd

theorem withChannel_effects {b : Byte} {s : State} {k : ChannelId → State × Answer} (h : ∀ ch, Effects s (k ch).1) :
    Effects s (withChannel b s k).1 := by
  rcases withChannel_eq b s k with ⟨_, e⟩ | ⟨ch, _, e⟩ <;> rw [e]
  · exact refuse_effects s _
  · exact h ch

theorem openDraft_effects (f : Frame) (s : State) : Effects s (openDraft f s).1 := by
  refine withProfile_effects fun p => ?_
  split
  · exact .refl s
  · next noDraft =>
    have hd : (s.profile p).draft = none := by simpa using noDraft
    split
    · next noLive => exact .table (.openEmpty s p hd noLive)
    · next v live =>
      split
      · exact .refl s
      · exact .table (.openCopy s p v hd live (by omega))

theorem discardDraft_effects (f : Frame) (s : State) : Effects s (discardDraft f s).1 := by
  refine withProfile_effects fun p => ?_
  split
  · exact .refl s
  · exact .table (.discard s p)

theorem commit_effects (f : Frame) (s : State) : Effects s (commit f s).1 := by
  refine withProfile_effects fun p => ?_
  split
  · exact .refl s
  · next d hd =>
    split
    · exact .refl s
    · next noDraining =>
      have drained : (s.profile p).draining = none := by simpa using noDraining
      split
      · exact .refl s
      · next below =>
        split
        · exact .refl s
        · next passes => exact .table (.makeLive s p d hd drained (by omega) passes)

theorem retire_effects (f : Frame) (s : State) (loaded : s.modes.mode ≠ .loading) : Effects s (retire f s).1 := by
  refine withProfile_effects fun p => ?_
  split
  · exact .refl s
  · split
    · exact .refl s
    · next unbound => exact .table (.retire s p loaded (by simpa using unbound))

theorem clearWithheld_effects (f : Frame) (s : State) : Effects s (clearWithheld f s).1 := by
  refine withProfile_effects fun p => ?_
  split
  · exact .refl s
  · exact .table (.clear s p)

theorem setPhase_effects (f : Frame) (s : State) : Effects s (setPhase f s).1 := by
  refine withDraft_effects fun p d hd => ?_
  dsimp only
  split
  · exact .refl s
  · next e he =>
    split
    · exact .refl s
    · refine .table (.rewrite s p d _ hd ?_ fun h => h.setEntry _ _ (entryOf_kept he))
      have := d.size_withSeq (positionSeq f.b3) ((d.seqOf (positionSeq f.b3)).set (positionIndex f.b3) e)
      rw [List.length_set] at this
      exact Nat.add_right_cancel this

theorem insertPhase_effects (f : Frame) (s : State) : Effects s (insertPhase f s).1 := by
  refine withDraft_effects fun p d hd => ?_
  dsimp only
  split
  · exact .refl s
  · next e he =>
    split
    · exact .refl s
    · next inside =>
      split
      · exact .refl s
      · next room =>
        split
        · exact .refl s
        · next free =>
          refine .table (.insert s p d _ hd ?_ (fun h => h.insertEntry _ (entryOf_kept he) (by omega)) (by omega))
          have := d.size_withSeq (positionSeq f.b3) ((d.seqOf (positionSeq f.b3)).insertIdx (positionIndex f.b3) e)
          rw [List.length_insertIdx, if_pos (by omega)] at this
          simp only [Shape.insertEntry]
          omega

theorem deletePhase_effects (f : Frame) (s : State) : Effects s (deletePhase f s).1 := by
  refine withDraft_effects fun p d hd => ?_
  dsimp only
  split
  · exact .refl s
  · refine .table (.delete s p d _ hd ?_ fun h => h.deleteEntry _ _)
    have := d.size_withSeq (positionSeq f.b3) ((d.seqOf (positionSeq f.b3)).eraseIdx (positionIndex f.b3))
    rw [List.length_eraseIdx, if_pos (by omega)] at this
    simp only [Shape.deleteEntry]
    omega

theorem setFields_effects (f : Frame) (s : State) : Effects s (setFields f s).1 := by
  refine withDraft_effects fun p d hd => ?_
  split
  · exact .refl s
  · next v hv =>
    exact .table (.rewrite s p d { d with fields := v } hd rfl fun ⟨h1, h2, h3, h4⟩ => ⟨h1, h2, h3, fieldsOf_kept hv h4⟩)

/-! ### The channels' commands -/

theorem State.driving_eq_false_iff {s : State} {ch : ChannelId} : s.driving ch = false ↔ (s.channel ch).running = none := by
  simp [State.driving]

theorem bindChannel_effects (f : Frame) (s : State) : Effects s (bindChannel f s).1 := by
  unfold bindChannel
  split
  · next ch p _ _ =>
    split
    · exact .refl s
    · next idle =>
      have hn : (s.channel ch).running = none := State.driving_eq_false_iff.mp (by simpa using idle)
      split
      · exact .refl s
      · next noLive =>
        have live : (s.profile p).live.isSome = true := by simpa [Option.isSome_iff_ne_none] using noLive
        show Effects s (s.acceptBind ch p)
        unfold State.acceptBind
        split
        · exact .channel (.bind s p (.inl ⟨hn, live⟩))
        · next bound => exact .channel (.rebind s p hn live bound)
  · exact .refl s

theorem unbindChannel_effects (f : Frame) (s : State) : Effects s (unbindChannel f s).1 := by
  refine withChannel_effects fun ch => ?_
  split
  · next driving =>
    split
    · exact .refl s
    · exact .channel (.unbindLater s driving)
  · next idle =>
    split
    · exact .refl s
    · exact .channel (.unbind s (State.driving_eq_false_iff.mp (by simpa using idle)))

theorem setChannelSettings_effects (f : Frame) (s : State) : Effects s (setChannelSettings f s).1 := by
  refine withChannel_effects fun ch => ?_
  split
  · exact .refl s
  · split
    · exact .refl s
    · exact .channel (.settings s _ _)

/-- A channel in the activity state READY is ready (R62). -/
theorem State.ready_of_activity {s : State} {ch : ChannelId} (h : s.activity ch = .ready) : s.ready ch = true := by
  unfold State.activity at h
  split at h
  · next a _ => cases hs : a.seq <;> simp only [hs] at h <;> [split at h <;> cases h; cases h]
  · next idle =>
    split at h
    · cases h
    · next unlatched =>
      split at h
      · next bound => simp [State.ready, State.driving, idle, unlatched, bound]
      · cases h

theorem actuate_effects (f : Frame) (s : State) (armed : s.modes.mode = .armed) : Effects s (actuate f s).1 := by
  have driving : ∀ ch, Effects s (actuateDriving s ch).1 := fun ch => by
    unfold actuateDriving
    split <;> exact .refl s
  refine withChannel_effects fun ch => ?_
  split
  · exact .refl s
  · split
    · exact .refl s
    · exact .refl s
    · exact driving ch
    · exact driving ch
    · exact driving ch
    · next ready =>
      unfold actuateReady
      split
      · exact .refl s
      · next t p gen started => exact .channel (.start s t .link p gen started (State.ready_of_activity ready) armed)

theorem releaseChannel_effects (f : Frame) (s : State) : Effects s (releaseChannel f s).1 := by
  refine withChannel_effects fun ch => ?_
  split
  · exact .refl s
  · next a ha =>
    split
    · exact .refl s
    · exact s.requestRelease_effects ch a .link ha

theorem State.markRead_effects (s : State) (ch : ChannelId) : Effects s (s.markRead ch) := by
  unfold State.markRead
  split
  · exact .channel (.record s _ rfl rfl rfl rfl rfl)
  · exact .refl s

theorem readOutcome_effects (f : Frame) (s : State) : Effects s (readOutcome f s).1 := by
  refine withChannel_effects fun ch => ?_
  split
  · exact s.markRead_effects ch
  · split
    · exact s.markRead_effects ch
    · exact .refl s

theorem State.clearAllFaults_effects (s : State) : Effects s s.clearAllFaults := by
  have latches := Effects.foldl State.clearLatches (fun s ch => .channel (ch := ch) (.clear s)) allChannels s
  unfold State.clearAllFaults
  exact latches.trans (.part (.clearFlags (allChannels.foldl State.clearLatches s)))

theorem clearFaults_effects (f : Frame) (s : State) : Effects s (clearFaults f s).1 := by
  unfold clearFaults
  split
  · exact s.clearAllFaults_effects
  · exact withChannel_effects fun ch => .channel (.clear s)

/-! ### The mode controller's and the store's commands -/

theorem armPart_effects (s : State) : Effects s (armPart s).1 := by
  unfold armPart
  split
  · exact .refl s
  · exact .refl s
  · exact .refl s
  · exact .refl s
  · next standby =>
    split
    · exact .refl s
    · next absent =>
      simp only [Bool.or_eq_true, not_or, Bool.not_eq_true] at absent
      split
      · exact .refl s
      · next session => exact .part (.arm s standby absent.1 absent.2 session)

theorem safeStopPart_effects (s : State) (loaded : s.modes.mode ≠ .loading) : Effects s (safeStopPart s).1 := by
  have entered := s.enterSafe_effects s.modes.nsafeSeen loaded
  have seen : s.seeNsafe s.modes.nsafeSeen = s := rfl
  rw [seen] at entered
  unfold safeStopPart
  split
  · exact .refl s
  · exact entered

theorem leaveSafePart_effects (s : State) (safe : s.modes.mode = .safe) : Effects s (leaveSafePart s).1 := by
  unfold leaveSafePart
  split
  · exact .refl s
  · next line => exact .part (.standby s (by simp [safe]) (by simp [safe]) (.inl line))

theorem openSession_effects (s : State) (standby : s.modes.mode = .standby) : Effects s (openSession s).1 := by
  unfold openSession
  split
  · exact .refl s
  · next unlocked =>
    split
    · exact .refl s
    · split
      · exact .refl s
      · next idle => exact .part (.openSession s standby (by simpa using unlocked) (by simpa using idle))

theorem closeSession_effects (s : State) : Effects s (closeSession s).1 := by
  unfold closeSession
  split
  · exact .refl s
  · next idle =>
    split
    · exact .refl s
    · exact .part (.closeSession s (by simpa using idle))

/-- A store write accepted on a session that is open, with no write in flight (R172 to R175). -/
theorem acceptWrite_made {s : State} {slot : Slot} {snapshot : CopyContent} {data : Nat → ReplyData}
    (loaded : s.modes.mode ≠ .loading)
    (taken : ∀ p gen sh, snapshot = .profile p gen sh → ∃ v, (s.profile p).live = some v ∧ v.gen = gen ∧ v.shape = sh) :
    Made s (withSession s (acceptWrite s slot snapshot data)).1 := by
  rcases withSession_eq s (acceptWrite s slot snapshot data) with ⟨_, e⟩ | ⟨_, _, e⟩ | ⟨session, idle, e⟩ <;> rw [e]
  · exact .refl s
  · exact .refl s
  · unfold acceptWrite
    split
    · exact .refl s
    · next copy blank => exact ⟨_, .begin s slot copy snapshot loaded session idle blank taken, .refl _⟩

theorem writeProfile_made (f : Frame) (s : State) (loaded : s.modes.mode ≠ .loading) : Made s (writeProfile f s).1 := by
  unfold writeProfile
  rcases withProfile_eq f.b2 s _ with ⟨_, e⟩ | ⟨p, _, e⟩ <;> rw [e]
  · exact .refl s
  · split
    · rcases withSession_eq s (refuse s .noProfile) with ⟨_, e⟩ | ⟨_, _, e⟩ | ⟨_, _, e⟩ <;> rw [e] <;> exact .refl s
    · next v hv => exact acceptWrite_made loaded fun _ _ _ h => by cases h; exact ⟨v, hv, rfl, rfl⟩

/-! ### The load -/

/-- The newest valid copy of a slot stands in one of its cells, written in full (R167, R179). -/
theorem Store.mem_cells_of_newestValid {st : Store} {slot : Slot} {content : CopyContent}
    (h : st.newestValid slot = some content) : ∃ check, Cell.written content check ∈ st.cells slot := by
  obtain ⟨cell, hcell, hvalid⟩ := List.mem_filterMap.mp (List.mem_of_getLast? h)
  cases cell with
  | blank => cases hvalid
  | partlyWritten => cases hvalid
  | written c check =>
    simp only [validContent, Option.ite_none_right_eq_some, Option.some.injEq] at hvalid
    exact ⟨check, hvalid.2 ▸ hcell⟩

/-- A slot's states in the record, once they are entered. -/
theorem Store.states_recordSlot (st : Store) (slot other : Slot) :
    (st.recordSlot slot).states other = if other = slot then (st.cells slot).map (cellState slot) else st.states other :=
  vector_get_set st.record slot other _

theorem State.fill_store (s : State) (p : ProfileId) (gen : Nat) (sh : Shape) :
    (s.fill p gen sh).store = s.store ∧ (s.fill p gen sh).modes = s.modes ∧
      (s.fill p gen sh).loader.next = s.loader.next := by
  unfold State.fill
  split <;> exact ⟨rfl, rfl, rfl⟩

theorem execLoadProfileSlot_effects (s t : State) (h : execLoadProfileSlot s = .next t) : Effects s t := by
  obtain rfl := (Host.Outcome.next.inj h).symm
  split
  · next hn =>
    split
    · next hl =>
      have loading : s.modes.mode = .loading := by
        simp only [State.loading, Bool.and_eq_true, decide_eq_true_eq] at hl; exact hl.2
      have recorded : Effects s (s.recordSlot (profileSlot ⟨s.loader.next, hn⟩)) := .part (.recordSlot s _)
      have next : ∀ u : State, u.store = s.store.recordSlot (profileSlot ⟨s.loader.next, hn⟩) → u.modes = s.modes →
          u.loader.next = s.loader.next → Effects u u.nextSlot := fun u hu hm hx =>
        .part (.nextSlot u (profileSlot ⟨s.loader.next, hn⟩) hx (hm ▸ loading) (by
          rw [hu, Store.states_recordSlot, if_pos rfl]; rfl))
      simp only [State.loadProfile]
      split
      · next q gen sh hv =>
        obtain ⟨check, hc⟩ := Store.mem_cells_of_newestValid hv
        refine (recorded.trans (.table (.fill _ _ gen sh loading ⟨_, _, check, hc⟩))).trans (next _ ?_ ?_ ?_)
        · exact (State.fill_store _ _ gen sh).1
        · exact (State.fill_store _ _ gen sh).2.1
        · exact (State.fill_store _ _ gen sh).2.2
      · exact recorded.trans (next _ rfl rfl rfl)
      · exact recorded.trans (next _ rfl rfl rfl)
      · exact recorded.trans (next _ rfl rfl rfl)
    · exact .refl s
  · exact .refl s

theorem State.applyMapEntry_effects (s : State) (ch : ChannelId) (m : MapEntry) (loading : s.modes.mode = .loading) :
    Effects s (s.applyMapEntry ch m) := by
  have settings : Effects s (s.applySettings ch m.trigger m.openLoadCheck) := .channel (.settings s _ _)
  have still : (s.applySettings ch m.trigger m.openLoadCheck).modes = s.modes := by
    unfold State.applySettings
    split <;> rfl
  simp only [State.applyMapEntry]
  split
  · exact settings
  · next p _ =>
    split
    · next loaded => exact settings.trans (.channel (.bind _ p (.inr ⟨still ▸ loading, loaded⟩)))
    · exact settings

/-- What the map copy reaches of neither the mode controller, nor the store, nor the loader. -/
structure MapApplied (s u : State) : Prop where
  modes : u.modes = s.modes
  store : u.store = s.store
  loader : u.loader = s.loader

theorem MapApplied.entry {s u : State} (h : MapApplied s u) (ch : ChannelId) (m : MapEntry) :
    MapApplied s (u.applyMapEntry ch m) := by
  have settings : MapApplied s (u.applySettings ch m.trigger m.openLoadCheck) := by
    unfold State.applySettings
    split <;> exact ⟨h.modes, h.store, h.loader⟩
  have unbound : ∀ v : State, MapApplied s v → MapApplied s (v.removeBinding ch) := fun v hv => by
    rcases v.removeBinding_eq ch with ⟨_, e⟩ | ⟨_, _, e⟩ <;> rw [e] <;> exact ⟨hv.modes, hv.store, hv.loader⟩
  simp only [State.applyMapEntry]
  split
  · exact settings
  · split
    · simp only [State.bindTo]
      split
      · exact ⟨settings.modes, settings.store, settings.loader⟩
      · have := unbound _ settings
        exact ⟨this.modes, this.store, this.loader⟩
    · exact settings

theorem execLoadMapSlot_effects (s t : State) (h : execLoadMapSlot s = .next t) : Effects s t := by
  obtain rfl := (Host.Outcome.next.inj h).symm
  split
  · next hl =>
    obtain ⟨hl, hnext⟩ := hl
    have loading : s.modes.mode = .loading := by
      simp only [State.loading, Bool.and_eq_true, decide_eq_true_eq] at hl; exact hl.2
    have recorded : Effects s (s.recordSlot mapSlot) := .part (.recordSlot s _)
    have next : ∀ u : State, MapApplied (s.recordSlot mapSlot) u → Effects u u.nextSlot := fun u hu =>
      .part (.nextSlot u mapSlot (hu.loader ▸ hnext) (hu.modes ▸ loading) (by
        rw [hu.store, show (s.recordSlot mapSlot).store = s.store.recordSlot mapSlot from rfl, Store.states_recordSlot, if_pos rfl]
        rfl))
    simp only [State.loadMap]
    split
    · next entries arm _ =>
      obtain ⟨applied, kept⟩ := Effects.foldl_of (MapApplied (s.recordSlot mapSlot))
        (fun u ch => u.applyMapEntry ch (entries.get ch))
        (fun u ch hu => ⟨u.applyMapEntry_effects ch _ (hu.modes ▸ loading), hu.entry ch _⟩) allChannels (s.recordSlot mapSlot)
        ⟨rfl, rfl, rfl⟩
      simp only [State.applyMap]
      generalize allChannels.foldl (fun u ch => u.applyMapEntry ch (entries.get ch)) (s.recordSlot mapSlot) = u at applied kept ⊢
      refine (recorded.trans applied).trans ?_
      have stepped := (next u kept)
      exact stepped.trans (.part (.request u.nextSlot _))
    · exact recorded.trans (next _ ⟨rfl, rfl, rfl⟩)
    · exact recorded.trans (next _ ⟨rfl, rfl, rfl⟩)
    · exact recorded.trans (next _ ⟨rfl, rfl, rfl⟩)
  · exact .refl s

theorem execLoadLockSlot_effects (s t : State) (h : execLoadLockSlot s = .next t) : Effects s t := by
  obtain rfl := (Host.Outcome.next.inj h).symm
  split
  · next hl =>
    have loading : s.modes.mode = .loading := by
      have := hl.1
      simp only [State.loading, Bool.and_eq_true, decide_eq_true_eq] at this; exact this.2
    exact .part (.loadLock s loading hl.2)
  · exact .refl s

/-! ### Every row -/

/-- The end of a command's frame makes what its owner makes of the part outside LOADING, in a mode that accepts the command. -/
theorem linkCommand_made {c : Command} {f : Frame} {s : State} {owner : State → State × Answer}
    (h : ∀ u : State, u.modes.mode ≠ .loading → u.modes.mode.accepts c = true → Made u (owner u).1) :
    Made s (linkCommand c f s owner) := by
  rcases linkCommand_cases c f s owner with e | ⟨r, e⟩ | ⟨⟨_, _, loaded, _, accepted⟩, e⟩ <;> rw [e]
  · exact .refl s
  · exact (Effects.part (.link s _)).made
  · generalize hl : s.link.ended (bytesBits (frameBytes (commandCode c) f)) = l
    have closed : s.closeFrame (bytesBits (frameBytes (commandCode c) f)) = s.withLink l := by rw [← hl]; rfl
    rw [closed]
    obtain ⟨u, write, reached⟩ := h (s.withLink l) loaded accepted
    have replied := reached.trans (.part (.link _ ((owner (s.withLink l)).1.prepare
      { result := (owner (s.withLink l)).2.result, code := commandCode c, tag := some (frameTag f)
        data := (owner (s.withLink l)).2.data }).link))
    cases write with
    | none => exact ((Effects.part (.link s l)).trans replied).made
    | begin slot copy snapshot _ session idle blank taken =>
      exact ⟨_, .begin s slot copy snapshot loaded session idle blank taken,
        (Effects.part (.link (s.setStore (s.store.beginWrite slot copy snapshot)) l)).trans replied⟩
    | settle => exact ⟨_, .settle s, (Effects.part (.link { s with store := s.store.settleWrite } l)).trans replied⟩

theorem linkCommand_made_of_effects {c : Command} {f : Frame} {s : State} {owner : State → State × Answer}
    (h : ∀ u : State, u.modes.mode ≠ .loading → u.modes.mode.accepts c = true → Effects u (owner u).1) :
    Made s (linkCommand c f s owner) :=
  linkCommand_made fun u loaded accepted => (h u loaded accepted).made

/-- A command whose owner only answers. -/
theorem linkCommand_made_of_answer {c : Command} {f : Frame} {s : State} {owner : State → State × Answer}
    (h : ∀ u, (owner u).1 = u) : Made s (linkCommand c f s owner) :=
  linkCommand_made_of_effects fun u _ _ => (h u).symm ▸ .refl u

end Sys2Proof.Machine
end


section
/-! Every row of the table makes of the part what the small moves make of it. -/

namespace Sys2Proof.Machine

/-! ### Commands that only answer -/

theorem readTableMap_fst (f : Frame) (s : State) : (readTableMap f s).1 = s := by
  unfold readTableMap
  repeat' split
  all_goals rfl

theorem withProfile_fst {b : Byte} {s : State} {k : ProfileId → State × Answer} (h : ∀ p, (k p).1 = s) :
    (withProfile b s k).1 = s := by
  rcases withProfile_eq b s k with ⟨_, e⟩ | ⟨p, _, e⟩ <;> rw [e]
  · rfl
  · exact h p

theorem readProfile_fst (f : Frame) (s : State) : (readProfile f s).1 = s := by
  refine withProfile_fst fun p => ?_
  repeat' split
  all_goals rfl

theorem readPhase_fst (f : Frame) (s : State) : (readPhase f s).1 = s := by
  refine withProfile_fst fun p => ?_
  split
  · rfl
  · split
    · rfl
    · dsimp only
      split <;> rfl

theorem checkDraft_fst (f : Frame) (s : State) : (checkDraft f s).1 = s := by
  rcases withDraft_eq f.b2 s _ with ⟨_, e⟩ | ⟨p, _, _, e⟩ | ⟨p, d, _, _, e⟩ <;> rw [checkDraft, e]
  · rfl
  · rfl
  · split <;> rfl

theorem readChannel_fst (f : Frame) (s : State) : (readChannel f s).1 = s := by
  rcases withChannel_eq f.b2 s _ with ⟨_, e⟩ | ⟨ch, _, e⟩ <;> rw [readChannel, e]
  · rfl
  · repeat' split
    all_goals rfl

theorem readFaults_fst (f : Frame) (s : State) : (readFaults f s).1 = s := by
  unfold readFaults
  repeat' split
  all_goals rfl

theorem queryStore_fst (f : Frame) (s : State) : (queryStore f s).1 = s := by
  unfold queryStore
  split <;> rfl

/-! ### Happenings -/

/-- A happening of a channel that only a running actuation can bring. -/
theorem runningNow_effects {s : State} {ch : ChannelId} {k : Actuation → State}
    (h : ∀ a, (s.channel ch).running = some a → Effects s (k a)) :
    Effects s (match s.runningNow ch with | none => s | some a => k a) := by
  split
  · exact .refl s
  · next a ha =>
    unfold State.runningNow at ha
    split at ha
    · cases ha
    · exact h a ha

theorem State.takeDip_effects (s : State) (ch : ChannelId) (a : Actuation) : Effects s (s.takeDip ch a) := by
  rw [s.takeDip_eq_setDiag ch a]
  exact .channel (.unit s _)

theorem State.takeSample_effects (s : State) (ch : ChannelId) (a : Actuation) : Effects s (s.takeSample ch a) := by
  rw [s.takeSample_eq_setDiag ch a]
  exact .channel (.unit s _)

theorem execOvercurrentTrip_effects (ch : ChannelId) (s : State) :
    Effects s (if !s.inFullReset ∧ (s.settleDue ch).watched ch then (s.settleDue ch).trip ch else s) := by
  split
  · next h =>
    have driving : ((s.settleDue ch).channel ch).running.isSome = true := by
      have watched := h.2
      unfold State.watched at watched
      split at watched
      · cases watched
      · next a ha => rw [ha]; rfl
    exact (s.settleDue_effects ch).trans (.channel (.trip _ driving))
  · exact .refl s

theorem beginFrame_effects (s : State) : Effects s (beginFrame s) := by
  unfold beginFrame
  split
  · exact .refl s
  · exact .part (.link s _)

theorem rejectFrame_effects (bits : List Bool) (s : State) : Effects s (rejectFrame bits s) := by
  unfold rejectFrame
  split
  · exact (Effects.part (.faultSettings s true s.faults.masks s.faults.stretch s.faults.timer)).trans (.part (.link _ _))
  · exact .refl s

theorem unknownFrame_effects (code : Byte) (f : Frame) (s : State) : Effects s (unknownFrame code f s) := by
  unfold unknownFrame
  generalize bytesBits (frameBytes code f) = bits
  split
  · exact .part (.link s _)
  · exact .refl s

/-- Every row makes at most one move of a store write, and small moves. -/
theorem exec_made {i : Instr} {s t : State} (h : exec i s = .next t) : Made s t := by
  cases i with
  | openDraft f => exact Host.Outcome.next.inj h ▸ linkCommand_made_of_effects fun u _ _ => openDraft_effects f u
  | discardDraft f => exact Host.Outcome.next.inj h ▸ linkCommand_made_of_effects fun u _ _ => discardDraft_effects f u
  | commit f => exact Host.Outcome.next.inj h ▸ linkCommand_made_of_effects fun u _ _ => commit_effects f u
  | retire f => exact Host.Outcome.next.inj h ▸ linkCommand_made_of_effects fun u hl _ => retire_effects f u hl
  | readTableMap f => exact Host.Outcome.next.inj h ▸ linkCommand_made_of_answer (readTableMap_fst f)
  | readProfile f => exact Host.Outcome.next.inj h ▸ linkCommand_made_of_answer (readProfile_fst f)
  | clearWithheld f => exact Host.Outcome.next.inj h ▸ linkCommand_made_of_effects fun u _ _ => clearWithheld_effects f u
  | setPhase f => exact Host.Outcome.next.inj h ▸ linkCommand_made_of_effects fun u _ _ => setPhase_effects f u
  | insertPhase f => exact Host.Outcome.next.inj h ▸ linkCommand_made_of_effects fun u _ _ => insertPhase_effects f u
  | deletePhase f => exact Host.Outcome.next.inj h ▸ linkCommand_made_of_effects fun u _ _ => deletePhase_effects f u
  | setFields f => exact Host.Outcome.next.inj h ▸ linkCommand_made_of_effects fun u _ _ => setFields_effects f u
  | readPhase f => exact Host.Outcome.next.inj h ▸ linkCommand_made_of_answer (readPhase_fst f)
  | readPool f => exact Host.Outcome.next.inj h ▸ linkCommand_made_of_answer fun _ => rfl
  | checkDraft f => exact Host.Outcome.next.inj h ▸ linkCommand_made_of_answer (checkDraft_fst f)
  | bind f => exact Host.Outcome.next.inj h ▸ linkCommand_made_of_effects fun u _ _ => bindChannel_effects f u
  | unbind f => exact Host.Outcome.next.inj h ▸ linkCommand_made_of_effects fun u _ _ => unbindChannel_effects f u
  | setChannel f => exact Host.Outcome.next.inj h ▸ linkCommand_made_of_effects fun u _ _ => setChannelSettings_effects f u
  | readChannel f => exact Host.Outcome.next.inj h ▸ linkCommand_made_of_answer (readChannel_fst f)
  | actuate f =>
    exact Host.Outcome.next.inj h ▸ linkCommand_made_of_effects fun u _ ha =>
      actuate_effects f u (by simpa [PartMode.accepts] using ha)
  | release f => exact Host.Outcome.next.inj h ▸ linkCommand_made_of_effects fun u _ _ => releaseChannel_effects f u
  | readOutcome f => exact Host.Outcome.next.inj h ▸ linkCommand_made_of_effects fun u _ _ => readOutcome_effects f u
  | readFaults f => exact Host.Outcome.next.inj h ▸ linkCommand_made_of_answer (readFaults_fst f)
  | clearFaults f => exact Host.Outcome.next.inj h ▸ linkCommand_made_of_effects fun u _ _ => clearFaults_effects f u
  | setFaultMask f =>
    exact Host.Outcome.next.inj h ▸ linkCommand_made_of_effects fun u _ _ =>
      .part (.faultSettings u u.faults.comm _ _ u.faults.timer)
  | arm f => exact Host.Outcome.next.inj h ▸ linkCommand_made_of_effects fun u _ _ => armPart_effects u
  | disarm f => exact Host.Outcome.next.inj h ▸ linkCommand_made_of_effects fun u _ _ => u.disarm_effects
  | safeStop f => exact Host.Outcome.next.inj h ▸ linkCommand_made_of_effects fun u hl _ => safeStopPart_effects u hl
  | leaveSafe f =>
    exact Host.Outcome.next.inj h ▸ linkCommand_made_of_effects fun u _ ha =>
      leaveSafePart_effects u (by simpa [PartMode.accepts] using ha)
  | softReset f => exact Host.Outcome.next.inj h ▸ linkCommand_made_of_effects fun u hl _ => u.softReset_effects hl
  | storeOpen f =>
    exact Host.Outcome.next.inj h ▸ linkCommand_made_of_effects fun u _ ha =>
      openSession_effects u (by simpa [PartMode.accepts] using ha)
  | storeClose f => exact Host.Outcome.next.inj h ▸ linkCommand_made_of_effects fun u _ _ => closeSession_effects u
  | storeWriteProfile f => exact Host.Outcome.next.inj h ▸ linkCommand_made fun u hl _ => writeProfile_made f u hl
  | storeWriteMap f =>
    exact Host.Outcome.next.inj h ▸ linkCommand_made fun u hl _ => acceptWrite_made hl fun _ _ _ hc => nomatch hc
  | storeLock f =>
    exact Host.Outcome.next.inj h ▸ linkCommand_made fun u hl _ => acceptWrite_made hl fun _ _ _ hc => nomatch hc
  | storeQuery f => exact Host.Outcome.next.inj h ▸ linkCommand_made_of_answer (queryStore_fst f)
  | nop f => exact Host.Outcome.next.inj h ▸ linkCommand_made_of_answer fun _ => rfl
  | unknownCommand code f =>
    obtain rfl := (Host.Outcome.next.inj h).symm
    split
    · exact (unknownFrame_effects code f s).made
    · exact .refl s
  | frameBegin => exact Host.Outcome.next.inj h ▸ (beginFrame_effects s).made
  | frameRejected bits =>
    obtain rfl := (Host.Outcome.next.inj h).symm
    split
    · exact .refl s
    · exact (rejectFrame_effects bits s).made
  | ctlAsserted ch =>
    obtain rfl := (Host.Outcome.next.inj h).symm
    split
    · exact .refl s
    · exact (s.sampleLine_effects ch _).made
  | ctlDeasserted ch =>
    obtain rfl := (Host.Outcome.next.inj h).symm
    split
    · exact .refl s
    · exact (s.sampleLine_effects ch _).made
  | nsafeAsserted =>
    obtain rfl := (Host.Outcome.next.inj h).symm
    split
    · exact .refl s
    · exact (s.sampleNsafe_effects _).made
  | nsafeDeasserted =>
    obtain rfl := (Host.Outcome.next.inj h).symm
    split
    · exact .refl s
    · exact (s.sampleNsafe_effects _).made
  | fullReset cause =>
    obtain rfl := (Host.Outcome.next.inj h).symm
    split
    · exact (Effects.single (.fullReset s)).made
    · exact .refl s
  | fullResetEnd vdd high =>
    obtain rfl := (Host.Outcome.next.inj h).symm
    split
    · exact (Effects.part (.resetEnds s)).made
    · exact .refl s
  | loadProfileSlot => exact (execLoadProfileSlot_effects s t h).made
  | loadMapSlot => exact (execLoadMapSlot_effects s t h).made
  | loadLockSlot => exact (execLoadLockSlot_effects s t h).made
  | uvmOnset vs | uvmClears vs | progOkTrue vs | progOkFalse vs =>
    obtain rfl := (Host.Outcome.next.inj h).symm
    split
    · exact (s.measureVs_effects vs).made
    · exact .refl s
  | ovtOnset temp | ovtClears temp =>
    obtain rfl := (Host.Outcome.next.inj h).symm
    split
    · exact (s.measureTemp_effects temp).made
    · exact .refl s
  | storeWriteComplete =>
    obtain rfl := (Host.Outcome.next.inj h).symm
    split
    · exact .refl s
    · exact ⟨_, .settle s, .refl _⟩
  | regulationPeriod p =>
    obtain rfl := (Host.Outcome.next.inj h).symm
    split
    · exact .refl s
    · cases p with
      | channel ch r => exact (s.channelPeriod_effects ch r).made
      | shared vs vdd temp nsafe => exact s.sharedPeriod_made vs vdd temp nsafe
  | phaseEnd ch =>
    obtain rfl := (Host.Outcome.next.inj h).symm
    refine (runningNow_effects fun a _ => ?_).made
    split
    · exact .refl s
    · split
      · exact s.enterRelease_effects ch _
      · exact s.endPhase_effects ch
  | holdExpired ch =>
    obtain rfl := (Host.Outcome.next.inj h).symm
    refine (runningNow_effects fun a _ => ?_).made
    split
    · exact .refl s
    · split
      · exact s.enterRelease_effects ch _
      · exact s.enterRelease_effects ch _
  | minOnReached ch =>
    obtain rfl := (Host.Outcome.next.inj h).symm
    refine (runningNow_effects fun a _ => ?_).made
    split
    · exact s.enterRelease_effects ch _
    · exact .refl s
  | dipConfirmed ch =>
    obtain rfl := (Host.Outcome.next.inj h).symm
    exact (runningNow_effects fun a _ => s.takeDip_effects ch a).made
  | resistanceSample ch =>
    obtain rfl := (Host.Outcome.next.inj h).symm
    exact (runningNow_effects fun a _ => s.takeSample_effects ch a).made
  | openLoadLatchSet ch =>
    obtain rfl := (Host.Outcome.next.inj h).symm
    split
    · next due => exact (Effects.channel (.latch s due.2)).made
    · exact .refl s
  | overcurrentTrip ch => exact Host.Outcome.next.inj h ▸ (execOvercurrentTrip_effects ch s).made
  | stretchExpired =>
    obtain rfl := (Host.Outcome.next.inj h).symm
    split
    · exact .refl s
    · exact (Effects.part (.faultSettings s s.faults.comm s.faults.masks s.faults.stretch _)).made

/-- What each move keeps, and the queue does not bear on, every step keeps. -/
theorem step_keeps {P : State → Prop} (queue : ∀ s q, P s → P { s with pending := q })
    (write : ∀ s t, WriteMove s t → P s → P t) (effect : ∀ s t, Effect s t → P s → P t) {s t : State} (hs : P s)
    (h : step s = .next t) : P t := by
  unfold step at h
  split at h
  · exact Host.Outcome.next.inj h ▸ hs
  · obtain ⟨u, first, then_⟩ := exec_made h
    exact then_.keeps effect (write _ u first (queue s _ hs))

end Sys2Proof.Machine
end


section
/-! What every step keeps of the profile table: the pool's account, the exactness of withholding, and the ranges of what is kept. -/

namespace Sys2Proof.Machine

/-! ### Starts -/

/-- A version that is live is found by its generation. -/
theorem State.shapeOf_of_live {s : State} {a : Actuation} {v : Version} (live : (s.profile a.profile).live = some v)
    (gen : v.gen = a.gen) : s.shapeOf a = v.shape := by
  simp [State.shapeOf, State.versionOf, State.kindOf, live, gen]

/-- An accepted start leaves the part as R78 has it. -/
theorem State.start_eq_started {s t : State} {ch : ChannelId} {o : Origin} {p : ProfileId} {gen : Nat}
    (h : s.start ch o = some (t, p, gen)) :
    ∃ v, (s.channel ch).binding = some p ∧ (s.profile p).live = some v ∧ (s.profile p).withheld = false ∧ gen = v.gen ∧
      t = s.started ch o p v := by
  simp only [State.start] at h
  split at h
  · cases h
  · next q hq =>
    split at h
    · cases h
    · next u g he =>
      obtain ⟨v, hv, hw, rfl, rfl⟩ := State.engage_eq_some he
      simp only [Option.some.injEq, Prod.mk.injEq] at h
      obtain ⟨rfl, rfl, rfl⟩ := h
      refine ⟨v, hq, hv, hw, rfl, ?_⟩
      rw [State.shapeOf_of_live (v := { v with engaged := v.engaged + 1 }) (by
        simp [startedActuation]) rfl]
      rfl

/-- A channel bound to a profile with a live version that is not withheld starts on it (R76 to R78). -/
theorem State.start_of_live {s : State} {ch : ChannelId} (o : Origin) {p : ProfileId} {v : Version}
    (bound : (s.channel ch).binding = some p) (live : (s.profile p).live = some v) (free : (s.profile p).withheld = false) :
    s.start ch o = some (s.started ch o p v, p, v.gen) := by
  cases h : s.start ch o with
  | none => simp [State.start, bound, State.engage, live, free] at h
  | some r =>
    obtain ⟨t, q, gen⟩ := r
    obtain ⟨w, hq, hw, _, rfl, rfl⟩ := State.start_eq_started h
    obtain rfl : p = q := Option.some.inj (bound.symm.trans hq)
    obtain rfl : v = w := Option.some.inj (live.symm.trans hw)
    rfl

/-! ### Properties of the table -/

/-- A property of the profile table and the pool that the counts of bindings and the engagements do not break. -/
structure TableProperty (P : State → Prop) : Prop where
  congr : ∀ {s t : State}, P s → t.profiles = s.profiles → t.free = s.free → P t
  bindings : ∀ {s : State} (p : ProfileId) (n : Nat), P s → P (s.setProfile p { s.profile p with bindingCount := n })
  engages : ∀ {s : State} {p : ProfileId} {v : Version}, P s → (s.profile p).live = some v →
    P (s.setProfile p { s.profile p with live := some { v with engaged := v.engaged + 1 } })
  disengages : ∀ {s : State} (p : ProfileId) (gen : Nat) (verdict : Verdict), P s → P (s.disengage p gen verdict)

namespace TableProperty

variable {P : State → Prop} (hP : TableProperty P) {s t : State}

include hP

theorem removeBinding (ch : ChannelId) (h : P s) : P (s.removeBinding ch) := by
  rcases s.removeBinding_eq ch with ⟨_, e⟩ | ⟨p, _, e⟩ <;> rw [e]
  · exact h
  · exact hP.congr (hP.bindings p _ h) rfl rfl

theorem bindTo (ch : ChannelId) (p : ProfileId) (h : P s) : P (s.bindTo ch p) := by
  unfold State.bindTo
  split
  · exact h
  · exact hP.congr (hP.bindings p _ (hP.removeBinding ch h)) rfl rfl

theorem settleUnit (ch : ChannelId) (h : P s) : P (s.settleUnit ch) := by
  rw [s.settleUnit_eq_setDiag ch]
  exact hP.congr h rfl rfl

theorem settleRecord (ch : ChannelId) (h : P s) : P (s.settleRecord ch) := by
  simp only [State.settleRecord]
  split
  · exact hP.congr (hP.removeBinding ch h) rfl rfl
  · exact hP.congr h rfl rfl

/-- The end of an actuation reaches the table by its disengagement and an unbind-pending binding (R101). -/
theorem endActuation (ch : ChannelId) (cause : EndCause) (h : P s) : P (s.endActuation ch cause) := by
  simp only [State.endActuation]
  split
  · exact h
  · next a _ =>
    have off : P ((s.settleUnit ch).stageOff ch) := hP.congr (hP.settleUnit ch h) rfl rfl
    exact hP.settleRecord ch (hP.congr (hP.disengages a.profile a.gen _ off) rfl rfl)

theorem channelMove {ch : ChannelId} (m : ChannelMove ch s t) (h : P s) : P t := by
  cases m with
  | unit | run | stage | record | edge | pull | latch | unbindLater => exact hP.congr h rfl rfl
  | finish cause => exact hP.endActuation ch cause h
  | start _ o p gen started =>
    obtain ⟨v, _, live, _, _, rfl⟩ := State.start_eq_started started
    exact hP.congr (hP.engages h live) rfl rfl
  | trip => exact hP.endActuation ch _ (hP.congr h rfl rfl)
  | clear =>
    simp only [State.clearLatches]
    split
    · exact h
    · split <;> exact hP.congr h rfl rfl
  | soft => exact hP.congr h rfl rfl
  | bind p => exact hP.congr (hP.bindTo ch p h) rfl rfl
  | rebind p => exact hP.bindTo ch p h
  | unbind => exact hP.congr (hP.removeBinding ch h) rfl rfl
  | settings t check =>
    simp only [State.applySettings]
    split <;> exact hP.congr h rfl rfl

end TableProperty

/-- The blocks that exist once move without the table and the pool, the channels, their stages and their fault items. -/
theorem PartMove.drive {s t : State} (m : PartMove s t) :
    t.profiles = s.profiles ∧ t.free = s.free ∧ t.channels = s.channels ∧ t.stages = s.stages ∧
      t.faults.channels = s.faults.channels := by
  cases m with
  | clearUvm =>
    rcases State.resume_cases { s with monitor := { s.monitor with uvm := false } } with ⟨_, _, _, e⟩ | ⟨_, e⟩ <;>
      rw [State.clearUvm, e] <;> exact ⟨rfl, rfl, rfl, rfl, rfl⟩
  | clearOvt =>
    rcases State.resume_cases { s with monitor := { s.monitor with ovt := false } } with ⟨_, _, _, e⟩ | ⟨_, e⟩ <;>
      rw [State.clearOvt, e] <;> exact ⟨rfl, rfl, rfl, rfl, rfl⟩
  | _ => exact ⟨rfl, rfl, rfl, rfl, rfl⟩

theorem WriteMove.rest {s t : State} (m : WriteMove s t) : t = { s with store := t.store } := by
  cases m <;> rfl

/-- A property of the table that its own moves keep, and that holds of an empty table, every step keeps. -/
theorem TableProperty.step {P : State → Prop} (hP : TableProperty P) (table : ∀ s t, TableMove s t → P s → P t)
    (reset : ∀ s : State, P s.toFullReset) {s t : State} (hs : P s) (h : step s = .next t) : P t := by
  refine step_keeps (fun s q h => hP.congr h rfl rfl) (fun s t m h => ?_) (fun s t m h => ?_) hs h
  · rw [m.rest]; exact hP.congr h rfl rfl
  · cases m with
    | table m => exact table s t m h
    | channel ch m => exact hP.channelMove m h
    | part m => obtain ⟨profiles, free, _⟩ := m.drive; exact hP.congr h profiles free
    | fullReset => exact reset s

/-! ### The pool's account (R30) -/

theorem PoolAccounted.congr {s t : State} (h : PoolAccounted s) (profiles : t.profiles = s.profiles) (free : t.free = s.free) :
    PoolAccounted t := by
  unfold PoolAccounted State.heldLive State.heldDrafts State.heldDraining State.profile at *
  rw [profiles, free]; exact h

/-- The pool's account after a change of one profile entry and of the free count. -/
theorem PoolAccounted.moved {s : State} (h : PoolAccounted s) (p : ProfileId) (e : Profile) (n : Nat)
    (moved : n + e.held = s.free + (s.profile p).held) : PoolAccounted { s.setProfile p e with free := n } := by
  have held := s.held_setProfile p e
  have hs : s.free + s.heldLive + s.heldDrafts + s.heldDraining = Config.poolSize := h
  show n + (s.setProfile p e).heldLive + (s.setProfile p e).heldDrafts + (s.setProfile p e).heldDraining = Config.poolSize
  omega

theorem PoolAccounted.loseDraining {s : State} (h : PoolAccounted s) {p : ProfileId} {v : Version}
    (draining : (s.profile p).draining = some v) : PoolAccounted (s.loseDraining p v) := by
  rcases s.loseDraining_eq p v with ⟨_, e⟩ | ⟨_, e⟩ <;> rw [e]
  · exact h.moved p _ (s.free + v.shape.size) (by simp only [Profile.held, versionSize, draining]; omega)
  · exact h.setProfile p _ (by simp only [Profile.held, versionSize, draining])

theorem poolAccounted_tableProperty : TableProperty PoolAccounted where
  congr := PoolAccounted.congr
  bindings p n h := h.setProfile p _ rfl
  engages {s p v} h live := h.setProfile p _ (by simp only [Profile.held, live, versionSize])
  disengages {s} p gen verdict h := by
    rcases s.disengage_eq p gen verdict with ⟨v, live, _, _, e⟩ | ⟨v, draining, _, _, e⟩ | ⟨_, _, e⟩ <;> rw [e]
    · refine h.setProfile p _ ?_
      obtain ⟨h1, h2, h3, _, _⟩ := Profile.count_frame
        ({ s.profile p with live := some { v with engaged := v.engaged - 1 } } : Profile) verdict
      simp only [Profile.held, h1, h2, h3, live, versionSize]
    · exact h.loseDraining draining
    · exact h

theorem Profile.clearIfAbsent_held (e : Profile) : e.clearIfAbsent.held = e.held := by
  unfold Profile.clearIfAbsent
  split <;> rfl

theorem PoolAccounted.tableMove {s t : State} (m : TableMove s t) (h : PoolAccounted s) : PoolAccounted t := by
  cases m with
  | openEmpty p noDraft noLive =>
    exact h.setProfile p _ (by simp [Profile.held, Profile.cleared, noDraft, draftSize, Shape.empty, Shape.size])
  | openCopy p v noDraft live room =>
    exact h.moved p _ (s.free - v.shape.size) (by simp only [Profile.held, noDraft, draftSize, live, versionSize]; omega)
  | discard p =>
    refine h.moved p _ (s.free + draftSize (s.profile p).draft) ?_
    rw [Profile.clearIfAbsent_held]
    simp only [Profile.held, draftSize]
    omega
  | makeLive p d draft drained below passes =>
    refine h.moved p _ (s.free + freedByCommit (s.profile p).live) ?_
    simp only [Profile.held, Profile.committed, draft, drained, draftSize, displaced, freedByCommit]
    cases (s.profile p).live with
    | none => simp only [versionSize]; omega
    | some v => by_cases hv : v.engaged = 0 <;> simp only [hv, if_true, if_false, versionSize] <;> omega
  | retire p =>
    exact h.moved p _ (s.free + (s.profile p).retiredEntries)
      (by simp only [Profile.held, Profile.cleared, Profile.retiredEntries, versionSize, draftSize]; omega)
  | clear p => exact h.setProfile p _ rfl
  | rewrite p d d' draft size => exact h.setProfile p _ (by simp only [Profile.held, draft, draftSize, size])
  | insert p d d' draft size _ room =>
    exact h.moved p _ (s.free - 1) (by simp only [Profile.held, draft, draftSize, size]; omega)
  | delete p d d' draft size =>
    exact h.moved p _ (s.free + 1) (by simp only [Profile.held, draft, draftSize, size]; omega)
  | fill p gen sh =>
    simp only [State.fill]
    split
    · exact h
    · next room =>
      simp only [not_or, Bool.not_eq_true, Option.isSome_eq_false_iff, Option.isNone_iff_eq_none] at room
      exact (h.moved p ((s.profile p).filled gen sh) (s.free - sh.size)
        (by simp only [Profile.held, Profile.filled, room.1, versionSize]; omega)).congr rfl rfl

/-- The pool of an empty table is free. -/
theorem PoolAccounted.fullReset (s : State) : PoolAccounted s.toFullReset := by
  have empty : ∀ p, (s.toFullReset).profile p = Profile.empty := fun p => by
    simp [State.toFullReset, State.fullReset, State.profile, Vector.get_eq_getElem]
  have held := (s.toFullReset).held_eq
  simp only [empty] at held
  have none : (allProfiles.map fun _ => Profile.empty.held).sum = 0 := by decide
  have free : (s.toFullReset).free = Config.poolSize := rfl
  unfold PoolAccounted
  omega

/-- Settles O52, move by move: what a move takes from the pool a version holds then, and what a version no longer holds is free. -/
theorem everyStepKeepsThePoolAccounted : Obligations.EveryStepKeepsThePoolAccounted := fun _ _ hs h =>
  poolAccounted_tableProperty.step (fun _ _ m hs => hs.tableMove m) PoolAccounted.fullReset hs h

end Sys2Proof.Machine
end


section
/-! What every step keeps of withholding (R124), and of the ranges of the versions that the part holds and stores (R27 to R29). -/

namespace Sys2Proof.Machine

/-! ### Withholding (R124) -/

/-- A profile is withheld exactly as its threshold and its run have it. -/
def Profile.withheldExact (e : Profile) : Prop :=
  e.failureRun ≤ Config.maxFailureRun ∧
    (e.withheld = true ↔ e.threshold ≠ 0 ∧ e.threshold ≤ e.failureRun) ∧ (e.live = none → e.failureRun = 0)

theorem withheldExact_iff (s : State) : WithheldExact s ↔ ∀ p, (s.profile p).withheldExact := Iff.rfl

/-- With a run of 0 no threshold is reached. -/
theorem Profile.withheldExact_of_run_zero {e : Profile} (run : e.failureRun = 0) (withheld : e.withheld = false) :
    e.withheldExact := by
  refine ⟨by omega, ?_, fun _ => run⟩
  rw [withheld, run]
  simp only [Bool.false_eq_true, false_iff]
  omega

/-- What bears on withholding: the run, the flag, and the threshold of the live version. -/
theorem Profile.withheldExact.congr {e f : Profile} (h : e.withheldExact) (run : f.failureRun = e.failureRun)
    (withheld : f.withheld = e.withheld) (threshold : f.threshold = e.threshold) (live : f.live = none → e.live = none) :
    f.withheldExact := by
  obtain ⟨h1, h2, h3⟩ := h
  exact ⟨run ▸ h1, by rw [withheld, threshold, run]; exact h2, fun hf => run ▸ h3 (live hf)⟩

theorem Profile.count_flawed_withheld_iff (e : Profile) :
    (e.count .flawed).withheld = true ↔
      e.withheld = true ∨ (e.threshold ≠ 0 ∧ e.threshold ≤ (e.count .flawed).failureRun) := by
  simp only [Profile.count, Bool.or_eq_true, Bool.and_eq_true, decide_eq_true_eq]

/-- A counted verdict keeps withholding exact (R125 to R127). -/
theorem Profile.withheldExact.count {e : Profile} (h : e.withheldExact) {v : Version} (live : e.live = some v)
    (verdict : Verdict) : (e.count verdict).withheldExact := by
  cases verdict with
  | clean => exact Profile.withheldExact_of_run_zero rfl rfl
  | aborted => exact h
  | flawed =>
    obtain ⟨most, exact', _⟩ := h
    refine ⟨Nat.min_le_left .., ?_, fun hn => absurd (live.symm.trans hn) (by simp)⟩
    have threshold : (e.count .flawed).threshold = e.threshold := rfl
    have run : (e.count .flawed).failureRun = min 15 (e.failureRun + 1) := rfl
    have greatest : Config.maxFailureRun = 15 := rfl
    rw [e.count_flawed_withheld_iff, exact', threshold, run]
    omega

theorem WithheldExact.setProfile {s : State} (h : WithheldExact s) {p : ProfileId} {e : Profile} (he : e.withheldExact) :
    WithheldExact (s.setProfile p e) := by
  intro q
  rw [State.profile_setProfile]
  split
  · exact he
  · exact h q

theorem WithheldExact.congr {s t : State} (h : WithheldExact s) (profiles : t.profiles = s.profiles) : WithheldExact t := by
  unfold WithheldExact State.profile at *
  rw [profiles]; exact h

/-- A profile is changed whose run, flag and threshold stand. -/
theorem WithheldExact.keep {s t : State} (h : WithheldExact s) (p : ProfileId) {e : Profile}
    (profiles : t.profiles = (s.setProfile p e).profiles) (run : e.failureRun = (s.profile p).failureRun)
    (withheld : e.withheld = (s.profile p).withheld) (threshold : e.threshold = (s.profile p).threshold)
    (live : e.live = none → (s.profile p).live = none) : WithheldExact t :=
  WithheldExact.congr (h.setProfile (Profile.withheldExact.congr (h p) run withheld threshold live)) profiles

theorem withheldExact_tableProperty : TableProperty WithheldExact where
  congr h profiles _ := h.congr profiles
  bindings p _ h := h.keep p rfl rfl rfl rfl id
  engages {s p v} h live := h.keep p rfl rfl rfl (by simp only [Profile.threshold, live]) (by simp)
  disengages {s} p gen verdict h := by
    rcases s.disengage_eq p gen verdict with ⟨v, live, _, _, e⟩ | ⟨v, draining, _, _, e⟩ | ⟨_, _, e⟩ <;> rw [e]
    · refine h.setProfile (Profile.withheldExact.count ?_ rfl verdict)
      exact Profile.withheldExact.congr (h p) rfl rfl (by simp only [Profile.threshold, live]) (by simp)
    · rcases s.loseDraining_eq p v with ⟨_, e⟩ | ⟨_, e⟩ <;> rw [e]
      · exact h.keep p rfl rfl rfl rfl id
      · exact h.keep p rfl rfl rfl rfl id
    · exact h

theorem WithheldExact.tableMove {s t : State} (m : TableMove s t) (h : WithheldExact s) : WithheldExact t := by
  cases m with
  | openEmpty p => exact h.setProfile (Profile.withheldExact_of_run_zero rfl rfl)
  | openCopy p => exact h.keep p rfl rfl rfl rfl id
  | discard p =>
    refine (h.setProfile (?_ : Profile.withheldExact _)).congr rfl
    unfold Profile.clearIfAbsent
    split
    · exact Profile.withheldExact_of_run_zero rfl rfl
    · exact Profile.withheldExact.congr (h p) rfl rfl rfl id
  | makeLive p d => exact (h.setProfile (Profile.withheldExact_of_run_zero rfl rfl)).congr rfl
  | retire p => exact (h.setProfile (Profile.withheldExact_of_run_zero rfl rfl)).congr rfl
  | clear p => exact h.setProfile (Profile.withheldExact_of_run_zero rfl rfl)
  | rewrite p => exact h.keep p rfl rfl rfl rfl id
  | insert p => exact h.keep p rfl rfl rfl rfl id
  | delete p => exact h.keep p rfl rfl rfl rfl id
  | fill p gen sh =>
    simp only [State.fill]
    split
    · exact h
    · exact (h.setProfile (e := (s.profile p).filled gen sh) (Profile.withheldExact_of_run_zero rfl rfl)).congr rfl

theorem State.profile_toFullReset (s : State) (p : ProfileId) : s.toFullReset.profile p = Profile.empty := by
  simp [State.toFullReset, State.fullReset, State.profile, Vector.get_eq_getElem]

/-- Settles O55, move by move: the moves that reach a run or a threshold set the run to 0 and lift the withholding, or count a
verdict. -/
theorem everyStepKeepsWithheldExact : Obligations.EveryStepKeepsWithheldExact := fun _ _ hs h =>
  withheldExact_tableProperty.step (fun _ _ m hs => hs.tableMove m)
    (fun s p => by rw [s.profile_toFullReset p]; exact Profile.withheldExact_of_run_zero rfl rfl) hs h

/-! ### Ranges (R27 to R29) -/

/-- Every version that a profile holds is in its ranges, and its high-water mark. -/
def Profile.inRange (e : Profile) : Prop :=
  (∀ v, e.live = some v → liveInRange v.gen v.shape) ∧ (∀ v, e.draining = some v → liveInRange v.gen v.shape) ∧
    (∀ d, e.draft = some d → d.inRange) ∧ e.highWater ≤ Config.maxGeneration

/-- Every version of the table is in its ranges. -/
def TableInRange (s : State) : Prop := ∀ p, (s.profile p).inRange

/-- Every stored and every snapshotted version is in its ranges. -/
def StoreInRange (s : State) : Prop :=
  (∀ slot : Slot, ∀ content check, Cell.written content check ∈ s.store.cells slot → content.inRange) ∧
    (∀ w, s.store.inFlight = some w → w.snapshot.inRange)

theorem shapesInRange_iff (s : State) : ShapesInRange s ↔ TableInRange s ∧ StoreInRange s := Iff.rfl

theorem TableInRange.congr {s t : State} (h : TableInRange s) (profiles : t.profiles = s.profiles) : TableInRange t := by
  unfold TableInRange State.profile at *
  rw [profiles]; exact h

theorem TableInRange.setProfile {s : State} (h : TableInRange s) {p : ProfileId} {e : Profile} (he : e.inRange) :
    TableInRange (s.setProfile p e) := by
  intro q
  rw [State.profile_setProfile]
  split
  · exact he
  · exact h q

/-- A live version that has lost or gained engagements. -/
theorem Profile.inRange.engaged {e f : Profile} (h : e.inRange) {v : Version} (live : e.live = some v) (n : Nat)
    (hl : f.live = some { v with engaged := n }) (hd : f.draft = e.draft) (hr : f.draining = e.draining)
    (hw : f.highWater = e.highWater) : f.inRange := by
  obtain ⟨h1, h2, h3, h4⟩ := h
  refine ⟨fun w hf => ?_, fun w hf => h2 w (hr ▸ hf), fun d hf => h3 d (hd ▸ hf), hw ▸ h4⟩
  obtain rfl := Option.some.inj (hl.symm.trans hf)
  exact h1 v live

theorem tableInRange_tableProperty : TableProperty TableInRange where
  congr h profiles _ := h.congr profiles
  bindings p _ h := h.setProfile (h p)
  engages {s p v} h live := h.setProfile (Profile.inRange.engaged (h p) live _ rfl rfl rfl rfl)
  disengages {s} p gen verdict h := by
    rcases s.disengage_eq p gen verdict with ⟨v, live, _, _, e⟩ | ⟨v, draining, _, _, e⟩ | ⟨_, _, e⟩ <;> rw [e]
    · obtain ⟨h1, h2, h3, h4, _⟩ := Profile.count_frame
        ({ s.profile p with live := some { v with engaged := v.engaged - 1 } } : Profile) verdict
      exact h.setProfile (Profile.inRange.engaged (h p) live _ h1 h2 h3 h4)
    · obtain ⟨h1, h2, h3, h4⟩ := h p
      rcases s.loseDraining_eq p v with ⟨_, e⟩ | ⟨_, e⟩ <;> rw [e]
      · exact (h.setProfile (p := p) (e := { s.profile p with draining := none }) ⟨h1, by simp, h3, h4⟩).congr rfl
      · exact h.setProfile ⟨h1, by rintro w ⟨⟩; exact h2 v draining, h3, h4⟩
    · exact h

/-- A draft in range in the place of one. -/
theorem Profile.inRange.withDraft {e : Profile} (h : e.inRange) {d : Shape} (hd : d.inRange) :
    ({ e with draft := some d } : Profile).inRange :=
  ⟨h.1, h.2.1, by rintro _ ⟨⟩; exact hd, h.2.2.2⟩

theorem Fields.kept_default : Fields.default.kept = true := by decide

theorem Shape.inRange_empty : Shape.empty.inRange :=
  ⟨Nat.zero_le _, Nat.zero_le _, by simp [Shape.empty], Fields.kept_default⟩

/-- A list of judged checks has no first failure where each of them is met. -/
theorem firstFailure_eq_pass_iff (l : List (Nat × Judgment)) : firstFailure l = .pass ↔ ∀ x ∈ l, x.2 = none := by
  induction l with
  | nil => simp [firstFailure]
  | cons x l ih =>
    obtain ⟨n, j⟩ := x
    cases j with
    | none => simp [firstFailure, ih]
    | some pos => simp [firstFailure]

/-- A shape that passes the checks has an energize entry (R48). -/
theorem energize_ne_nil_of_pass {sh : Shape} (h : runChecks sh = .pass) : sh.energize ≠ [] := by
  have met := (firstFailure_eq_pass_iff _).mp h (1, checkA1 sh) (by simp [judgments])
  intro empty
  simp [checkA1, failWithNone, empty] at met

theorem TableInRange.tableMove {s t : State} (m : TableMove s t) (h : TableInRange s) (store : StoreInRange s) :
    TableInRange t := by
  cases m with
  | openEmpty p => exact h.setProfile (Profile.inRange.withDraft (h p) Shape.inRange_empty)
  | openCopy p v _ live => exact (h.setProfile (Profile.inRange.withDraft (h p) ((h p).1 v live).1)).congr rfl
  | discard p =>
    obtain ⟨h1, h2, _, h4⟩ := h p
    refine (h.setProfile (?_ : Profile.inRange _)).congr rfl
    unfold Profile.clearIfAbsent
    split <;> exact ⟨h1, h2, by simp [Profile.cleared], h4⟩
  | makeLive p d draft drained below passes =>
    obtain ⟨h1, _, h3, _⟩ := h p
    refine (h.setProfile (p := p) (e := (s.profile p).committed d) ⟨?_, fun v hv => ?_, by simp [Profile.committed], below⟩).congr rfl
    · rintro _ ⟨⟩
      exact ⟨h3 d draft, energize_ne_nil_of_pass passes, Nat.le_add_left 1 _, below⟩
    · simp only [Profile.committed, displaced] at hv
      split at hv
      · cases hv
      · next w hw =>
        split at hv
        · cases hv
        · exact h1 v (hw.trans hv)
  | retire p =>
    obtain ⟨_, h2, _, h4⟩ := h p
    exact (h.setProfile (p := p) (e := { (s.profile p).cleared with live := none, draft := none })
      ⟨by simp, h2, by simp, h4⟩).congr rfl
  | clear p => exact h.setProfile (h p)
  | rewrite p d d' draft _ range => exact h.setProfile (Profile.inRange.withDraft (h p) (range ((h p).2.2.1 d draft)))
  | insert p d d' draft _ range =>
    exact (h.setProfile (Profile.inRange.withDraft (h p) (range ((h p).2.2.1 d draft)))).congr rfl
  | delete p d d' draft _ range =>
    exact (h.setProfile (Profile.inRange.withDraft (h p) (range ((h p).2.2.1 d draft)))).congr rfl
  | fill p gen sh _ stored =>
    obtain ⟨slot, id, check, hcell⟩ := stored
    have range : liveInRange gen sh := store.1 slot _ check hcell
    obtain ⟨_, h2, h3, _⟩ := h p
    simp only [State.fill]
    split
    · exact h
    · exact (h.setProfile (p := p) (e := (s.profile p).filled gen sh) ⟨by rintro _ ⟨⟩; exact range, h2, h3, range.2.2.2⟩).congr rfl

/-! ### The store's versions -/

/-- The written copies of a store are those it had, and its snapshot is the one it had. -/
theorem StoreInRange.congr {s t : State} (h : StoreInRange s) (array : t.store.array = s.store.array)
    (inFlight : ∀ w, t.store.inFlight = some w → ∃ x, s.store.inFlight = some x ∧ x.snapshot = w.snapshot) : StoreInRange t := by
  unfold StoreInRange Store.cells at *
  rw [array]
  refine ⟨h.1, fun w hw => ?_⟩
  obtain ⟨x, hx, same⟩ := inFlight w hw
  exact same ▸ h.2 x hx

theorem TableMove.store {s t : State} (m : TableMove s t) : t.store = s.store := by
  cases m with
  | fill p gen sh => exact (s.fill_store p gen sh).1
  | _ => rfl

/-- The move of a channel reaches none of the blocks that exist once but its fault items. -/
theorem ChannelMove.rest {ch : ChannelId} {s t : State} (m : ChannelMove ch s t) :
    t.pending = s.pending ∧ t.inFullReset = s.inFullReset ∧ t.monitor = s.monitor ∧ t.modes = s.modes ∧ t.store = s.store ∧
      t.loader = s.loader ∧ t.link = s.link ∧ t.faults.uvm = s.faults.uvm ∧ t.faults.ovt = s.faults.ovt := by
  have only : ∀ {u v : State}, ChannelOnly ch u v → v.pending = u.pending ∧ v.inFullReset = u.inFullReset ∧
      v.monitor = u.monitor ∧ v.modes = u.modes ∧ v.store = u.store ∧ v.loader = u.loader ∧ v.link = u.link ∧
      v.faults.uvm = u.faults.uvm ∧ v.faults.ovt = u.faults.ovt := fun h =>
    ⟨h.pending, h.inFullReset, h.monitor, h.modes, h.store, h.loader, h.link, by rw [h.faults], by rw [h.faults]⟩
  have bind : ∀ p, ChannelOnly ch s (s.bindTo ch p) := fun p => by
    unfold State.bindTo
    split
    · exact .refl ch s
    · exact ((ChannelOnly.removeBinding s ch).trans (.setProfile _ ch p _)).trans (.setChannel _ ch _)
  cases m with
  | finish cause => exact only (.endActuation s ch cause)
  | start _ o p gen started =>
    obtain ⟨v, _, _, _, _, rfl⟩ := State.start_eq_started started
    exact ⟨rfl, rfl, rfl, rfl, rfl, rfl, rfl, rfl, rfl⟩
  | trip =>
    obtain ⟨h1, h2, h3, h4, h5, h6, h7, h8, h9⟩ := only (.endActuation (s.setChFault ch _) ch .overcurrent)
    exact ⟨h1, h2, h3, h4, h5, h6, h7, h8, h9⟩
  | clear =>
    simp only [State.clearLatches]
    split
    · exact ⟨rfl, rfl, rfl, rfl, rfl, rfl, rfl, rfl, rfl⟩
    · split <;> exact ⟨rfl, rfl, rfl, rfl, rfl, rfl, rfl, rfl, rfl⟩
  | bind p => exact only ((bind p).trans (.settleEdge _ ch))
  | rebind p => exact only (bind p)
  | unbind => exact only ((ChannelOnly.removeBinding s ch).trans (.setChannel _ ch _))
  | settings t check =>
    simp only [State.applySettings]
    split <;> exact ⟨rfl, rfl, rfl, rfl, rfl, rfl, rfl, rfl, rfl⟩
  | _ => exact ⟨rfl, rfl, rfl, rfl, rfl, rfl, rfl, rfl, rfl⟩

theorem Store.abandon_inFlight (st : Store) : st.abandon.inFlight = none := st.abandon_frame.2.1

/-- The moves of the blocks that exist once write no copy, and begin no write. -/
theorem PartMove.copies {s t : State} (m : PartMove s t) :
    t.store.array = s.store.array ∧
      ∀ w, t.store.inFlight = some w → ∃ x, s.store.inFlight = some x ∧ x.snapshot = w.snapshot ∧ x.slot = w.slot ∧ x.copy = w.copy := by
  have same : ∀ w, s.store.inFlight = some w →
      ∃ x, s.store.inFlight = some x ∧ x.snapshot = w.snapshot ∧ x.slot = w.slot ∧ x.copy = w.copy :=
    fun w h => ⟨w, h, rfl, rfl, rfl⟩
  cases m with
  | clearUvm =>
    rcases State.resume_cases { s with monitor := { s.monitor with uvm := false } } with ⟨_, _, _, e⟩ | ⟨_, e⟩ <;>
      rw [State.clearUvm, e] <;> exact ⟨rfl, same⟩
  | clearOvt =>
    rcases State.resume_cases { s with monitor := { s.monitor with ovt := false } } with ⟨_, _, _, e⟩ | ⟨_, e⟩ <;>
      rw [State.clearOvt, e] <;> exact ⟨rfl, same⟩
  | abandon => exact ⟨s.store.abandon_frame.2.2.1, fun w hw => by simp [s.store.abandon_inFlight] at hw⟩
  | leaveStandby => rw [s.store.leaveStandby_frame]; exact ⟨rfl, same⟩
  | writePeriod =>
    simp only [Store.writePeriod]
    split
    · exact ⟨rfl, same⟩
    · next x hx => exact ⟨rfl, by rintro _ ⟨⟩; exact ⟨x, hx, rfl, rfl, rfl⟩⟩
  | _ => exact ⟨rfl, same⟩

theorem StoreInRange.writeMove {s t : State} (m : WriteMove s t) (h : StoreInRange s) (table : TableInRange s) :
    StoreInRange t := by
  cases m with
  | none => exact h
  | begin slot copy snapshot _ _ _ _ taken =>
    refine ⟨fun other content check hc => ?_, ?_⟩
    · rw [State.store_setStore, Store.beginWrite_cells] at hc
      split at hc
      · next same =>
        rcases List.mem_or_eq_of_mem_set hc with hc | hc
        · exact h.1 slot content check hc
        · cases hc
      · exact h.1 other content check hc
    · rintro _ ⟨⟩
      cases snapshot with
      | profile p gen sh =>
        obtain ⟨v, live, rfl, rfl⟩ := taken p gen sh rfl
        exact (table p).1 v live
      | map => trivial
      | lockMark => trivial
  | settle =>
    rcases s.store.settleWrite_cases with ⟨_, e⟩ | ⟨w, hw, ⟨_, e⟩ | ⟨_, e⟩⟩ <;> rw [e]
    · exact h
    · refine ⟨fun other content check hc => ?_, by simp [Store.completeWrite]⟩
      simp only [Store.completeWrite_cells] at hc
      split at hc
      · rcases List.mem_or_eq_of_mem_set hc with hc | hc
        · exact h.1 _ content check hc
        · cases hc; exact h.2 w hw
      · exact h.1 other content check hc
    · exact h

/-- Settles O56, move by move: a request writes only what the part keeps, a commit makes live only a draft with an energize entry, and
what the load fills with was live once. -/
theorem everyStepKeepsShapesInRange : Obligations.EveryStepKeepsShapesInRange := by
  intro s t hs h
  refine step_keeps (P := ShapesInRange) (fun s q h => h) (fun s t m h => ?_) (fun s t m h => ?_) hs h
  · exact ⟨by rw [m.rest]; exact TableInRange.congr h.1 rfl, StoreInRange.writeMove m h.2 h.1⟩
  · obtain ⟨table, store⟩ := h
    have same : ∀ {u : State}, u.store = s.store → StoreInRange u := fun e =>
      StoreInRange.congr store (by rw [e]) fun w hw => ⟨w, e ▸ hw, rfl⟩
    cases m with
    | table m => exact ⟨TableInRange.tableMove m table store, same m.store⟩
    | channel ch m => exact ⟨tableInRange_tableProperty.channelMove m table, same m.rest.2.2.2.2.1⟩
    | part m =>
      refine ⟨TableInRange.congr table m.drive.1, StoreInRange.congr store m.copies.1 fun w hw => ?_⟩
      obtain ⟨x, hx, snapshot, _⟩ := m.copies.2 w hw
      exact ⟨x, hx, snapshot⟩
    | fullReset =>
      refine ⟨fun p => ?_, store.1, fun w hw => by cases hw⟩
      rw [s.profile_toFullReset p]
      exact ⟨by simp [Profile.empty], by simp [Profile.empty], by simp [Profile.empty], Nat.zero_le _⟩

end Sys2Proof.Machine
end


section
/-! The end step of an actuation (R101), item by item: what it leaves of its channel, stage and unit, and of each profile. -/

namespace Sys2Proof.Machine

/-! ### The settling of the record (R64) -/

/-- A channel's record as R64 and R73 settle it, by whether the channel is latched. -/
def Channel.settled (c : Channel) (latched : Bool) : Channel :=
  { c with
    unbindPending := false
    binding := if c.unbindPending then none else c.binding
    edgeArmed := !c.running.isSome && !latched && (!c.unbindPending && c.binding.isSome) && c.edgeFromLine }

/-- The binding count of a profile once a channel's record has settled. -/
def State.settledCount (s : State) (ch : ChannelId) (q : ProfileId) : Nat :=
  if (s.channel ch).unbindPending = true ∧ (s.channel ch).binding = some q then (s.profile q).bindingCount - 1
  else (s.profile q).bindingCount

theorem State.removeBinding_channel_same (s : State) (ch : ChannelId) :
    (s.removeBinding ch).channel ch = { s.channel ch with binding := none } := by
  rcases s.removeBinding_eq ch with ⟨unbound, e⟩ | ⟨p, _, e⟩ <;> rw [e]
  · rw [← unbound]
  · simp

theorem State.removeBinding_profile (s : State) (ch : ChannelId) (q : ProfileId) :
    (s.removeBinding ch).profile q =
      { s.profile q with
        bindingCount := if (s.channel ch).binding = some q then (s.profile q).bindingCount - 1
          else (s.profile q).bindingCount } := by
  rcases s.removeBinding_eq ch with ⟨unbound, e⟩ | ⟨p, bound, e⟩ <;> rw [e]
  · simp [unbound]
  · by_cases h : q = p
    · subst h; simp [bound]
    · have other : ¬ p = q := fun e => h e.symm
      simp [bound, h, other, State.profile_setProfile]

theorem State.removeBinding_frame (s : State) (ch : ChannelId) :
    s.removeBinding ch =
      { s with profiles := (s.removeBinding ch).profiles, channels := (s.removeBinding ch).channels } := by
  rcases s.removeBinding_eq ch with ⟨_, e⟩ | ⟨p, _, e⟩
  · rw [e]
  · rw [e]; rfl

/-- The settling of a record reaches that record and the counts of bindings. -/
theorem State.settleRecord_frame (s : State) (ch : ChannelId) :
    s.settleRecord ch =
      { s with profiles := (s.settleRecord ch).profiles, channels := (s.settleRecord ch).channels } := by
  simp only [State.settleRecord]
  split
  · rw [s.removeBinding_frame ch]; rfl
  · rfl

theorem State.settleRecord_channel_same (s : State) (ch : ChannelId) :
    (s.settleRecord ch).channel ch = (s.channel ch).settled (s.chFault ch).latched := by
  simp only [State.settleRecord, Channel.settled]
  split
  · next pending =>
    have fault : (s.removeBinding ch).chFault ch = s.chFault ch := (ChannelOnly.removeBinding s ch).chFault ch
    simp [State.settleEdge, State.ready, State.driving, Channel.edgeFromLine, s.removeBinding_channel_same ch, fault, pending]
  · next pending => simp [State.settleEdge, State.ready, State.driving, pending]

theorem State.settleRecord_profile (s : State) (ch : ChannelId) (q : ProfileId) :
    (s.settleRecord ch).profile q = { s.profile q with bindingCount := s.settledCount ch q } := by
  simp only [State.settleRecord, State.settledCount]
  split
  · next pending => simp [State.settleEdge, s.removeBinding_profile ch q, pending]
  · next pending => simp [State.settleEdge, pending]

/-! ### The end step (R101) -/

/-- A lost engagement and its verdict reach one profile and the pool. -/
theorem State.disengage_frame (s : State) (p : ProfileId) (gen : Nat) (verdict : Verdict) :
    s.disengage p gen verdict =
      { s with profiles := (s.disengage p gen verdict).profiles, free := (s.disengage p gen verdict).free } := by
  rcases s.disengage_eq p gen verdict with ⟨v, _, _, _, e⟩ | ⟨v, _, _, _, e⟩ | ⟨_, _, e⟩ <;> rw [e]
  · rfl
  · rcases s.loseDraining_eq p v with ⟨_, e⟩ | ⟨_, e⟩ <;> rw [e] <;> rfl

/-- A lost engagement reads the table and the pool alone. -/
theorem State.disengage_congr {s t : State} (profiles : t.profiles = s.profiles) (free : t.free = s.free) (p : ProfileId)
    (gen : Nat) (verdict : Verdict) :
    (t.disengage p gen verdict).profiles = (s.disengage p gen verdict).profiles ∧
      (t.disengage p gen verdict).free = (s.disengage p gen verdict).free := by
  have same : t = { t with profiles := s.profiles, free := s.free } := by rw [← profiles, ← free]
  rw [same]
  simp only [State.disengage, State.kindOf, State.profile, State.loseDraining]
  split <;> split
  · exact ⟨rfl, rfl⟩
  · exact ⟨rfl, rfl⟩
  · exact ⟨rfl, rfl⟩
  · split
    · split <;> exact ⟨rfl, rfl⟩
    · exact ⟨rfl, rfl⟩

theorem State.disengage_profile_other (s : State) {p q : ProfileId} (gen : Nat) (verdict : Verdict) (other : q ≠ p) :
    (s.disengage p gen verdict).profile q = s.profile q := by
  rcases s.disengage_eq p gen verdict with ⟨v, _, _, _, e⟩ | ⟨v, _, _, _, e⟩ | ⟨_, _, e⟩ <;> rw [e]
  · simp [State.profile_setProfile, other]
  · rcases s.loseDraining_eq p v with ⟨_, e⟩ | ⟨_, e⟩ <;> rw [e] <;> simp [State.profile_setProfile, other]

/-- The bindings are no part of what a lost engagement changes. -/
theorem State.disengage_bindingCount (s : State) (p q : ProfileId) (gen : Nat) (verdict : Verdict) :
    ((s.disengage p gen verdict).profile q).bindingCount = (s.profile q).bindingCount := by
  by_cases other : q = p
  · subst other
    rcases s.disengage_eq q gen verdict with ⟨v, _, _, _, e⟩ | ⟨v, _, _, _, e⟩ | ⟨_, _, e⟩ <;> rw [e]
    · obtain ⟨_, _, _, _, count⟩ := Profile.count_frame
        ({ s.profile q with live := some { v with engaged := v.engaged - 1 } } : Profile) verdict
      simp [count]
    · rcases s.loseDraining_eq q v with ⟨_, e⟩ | ⟨_, e⟩ <;> rw [e] <;> simp
  · rw [s.disengage_profile_other gen verdict other]

/-- The outcome record that an actuation's end step writes. -/
def State.endRecord (s : State) (ch : ChannelId) (a : Actuation) (cause : EndCause) : OutcomeRecord :=
  outcomeOf (s.channel ch) a ((s.settleUnit ch).diag ch) cause (s.kindOf a.profile a.gen)

section

variable {s : State} {ch : ChannelId} {a : Actuation} (running : (s.channel ch).running = some a) (cause : EndCause)

include running

theorem State.endActuation_eq :
    s.endActuation ch cause =
      ((((s.settleUnit ch).stageOff ch).disengage a.profile a.gen (s.endRecord ch a cause).verdict).setChannel ch
        { s.channel ch with running := none, outcome := some (s.endRecord ch a cause), unread := true }).settleRecord ch := by
  have unit := s.settleUnit_eq_setDiag ch
  generalize hu : (s.settleUnit ch).diag ch = u at unit
  have frame := ((s.settleUnit ch).stageOff ch).disengage_frame a.profile a.gen (s.endRecord ch a cause).verdict
  have record : (((s.settleUnit ch).stageOff ch).disengage a.profile a.gen (s.endRecord ch a cause).verdict).channel ch =
      s.channel ch := by
    rw [frame, unit]; rfl
  have outcome : outcomeOf (((s.settleUnit ch).stageOff ch).channel ch) a (((s.settleUnit ch).stageOff ch).diag ch) cause
      (((s.settleUnit ch).stageOff ch).kindOf a.profile a.gen) = s.endRecord ch a cause := by
    unfold State.endRecord
    rw [hu, unit]
    simp [State.stageOff, State.kindOf]
  simp only [State.endActuation, running, outcome, record]

/-- The channel's record after the end step: its outcome record, and settled. -/
theorem State.endActuation_channel_same :
    (s.endActuation ch cause).channel ch =
      ({ s.channel ch with running := none, outcome := some (s.endRecord ch a cause), unread := true } : Channel).settled
        (s.chFault ch).latched := by
  have fault : (((s.settleUnit ch).stageOff ch).disengage a.profile a.gen (s.endRecord ch a cause).verdict).chFault ch =
      s.chFault ch := by
    rw [State.disengage_frame, s.settleUnit_eq_setDiag ch]; rfl
  rw [State.endActuation_eq running cause, State.settleRecord_channel_same]
  simp [fault]

/-- The stage is OFF after the end step, and the unit holds what it had due. -/
theorem State.endActuation_drive :
    (s.endActuation ch cause).stage ch = { s.stage ch with mode := .off, duty := 0 } ∧
      (s.endActuation ch cause).diag ch = (s.settleUnit ch).diag ch := by
  have unit := s.settleUnit_eq_setDiag ch
  rw [State.endActuation_eq running cause, State.settleRecord_frame, State.disengage_frame]
  generalize (s.settleUnit ch).diag ch = u at unit
  rw [unit]
  simp [State.setChannel, State.stageOff, State.setStage, State.stage, State.diag, State.setDiag, vector_get_set]

/-- A profile after the end step: disengaged, and its binding count as the record's settling leaves it. -/
theorem State.endActuation_profile (q : ProfileId) :
    (s.endActuation ch cause).profile q =
      { (s.disengage a.profile a.gen (s.endRecord ch a cause).verdict).profile q with bindingCount := s.settledCount ch q } := by
  have table := (State.disengage_congr (s := s) (t := (s.settleUnit ch).stageOff ch) (by rw [s.settleUnit_eq_setDiag ch]; rfl)
    (by rw [s.settleUnit_eq_setDiag ch]; rfl) a.profile a.gen (s.endRecord ch a cause).verdict).1
  have same : (((s.settleUnit ch).stageOff ch).disengage a.profile a.gen (s.endRecord ch a cause).verdict).profile q =
      (s.disengage a.profile a.gen (s.endRecord ch a cause).verdict).profile q := by
    unfold State.profile; rw [table]
  rw [State.endActuation_eq running cause, State.settleRecord_profile]
  simp only [State.settledCount, State.channel_setChannel_same, State.setChannel_profile, same, State.disengage_bindingCount]

/-- The pool after the end step is as the disengagement leaves it. -/
theorem State.endActuation_free :
    (s.endActuation ch cause).free = (s.disengage a.profile a.gen (s.endRecord ch a cause).verdict).free := by
  rw [State.endActuation_eq running cause, State.settleRecord_frame]
  exact (State.disengage_congr (s := s) (t := (s.settleUnit ch).stageOff ch) (by rw [s.settleUnit_eq_setDiag ch]; rfl)
    (by rw [s.settleUnit_eq_setDiag ch]; rfl) a.profile a.gen (s.endRecord ch a cause).verdict).2

end

/-! ### The table's side of an end (R8, R102, R125 to R127) -/

theorem State.kindOf_eq_live_iff (s : State) (p : ProfileId) (gen : Nat) :
    s.kindOf p gen = .live ↔ ∃ v, (s.profile p).live = some v ∧ v.gen = gen := by
  refine ⟨State.kindOf_live, ?_⟩
  rintro ⟨v, live, rfl⟩
  simp [State.kindOf, live]

theorem State.kindOf_eq_draining {s : State} {p : ProfileId} {gen : Nat}
    (other : ∀ w, (s.profile p).live = some w → w.gen ≠ gen) : s.kindOf p gen = .draining := by
  cases kind : s.kindOf p gen with
  | draining => rfl
  | live => obtain ⟨w, live, same⟩ := State.kindOf_live kind; exact absurd same (other w live)

/-- The live version loses an engagement, and the verdict is counted. -/
theorem State.disengage_of_live {s : State} {p : ProfileId} {v : Version} (live : (s.profile p).live = some v)
    (verdict : Verdict) :
    s.disengage p v.gen verdict =
      s.setProfile p (({ s.profile p with live := some { v with engaged := v.engaged - 1 } } : Profile).count verdict) := by
  have kind : s.kindOf p v.gen = .live := (s.kindOf_eq_live_iff p v.gen).mpr ⟨v, live, rfl⟩
  simp only [State.disengage, kind, live]

/-- The draining version loses an engagement. -/
theorem State.disengage_of_draining {s : State} {p : ProfileId} {v : Version}
    (other : ∀ w, (s.profile p).live = some w → w.gen ≠ v.gen) (draining : (s.profile p).draining = some v)
    (verdict : Verdict) : s.disengage p v.gen verdict = s.loseDraining p v := by
  simp only [State.disengage, State.kindOf_eq_draining other, draining, if_true]

/-- A verdict on a version that is not the live one is ignored. -/
theorem State.disengage_ignored {s : State} {p : ProfileId} {gen : Nat}
    (other : ∀ w, (s.profile p).live = some w → w.gen ≠ gen) (verdict : Verdict) :
    ((s.disengage p gen verdict).profile p).failureRun = (s.profile p).failureRun ∧
      ((s.disengage p gen verdict).profile p).withheld = (s.profile p).withheld := by
  rcases s.disengage_eq p gen verdict with ⟨v, live, same, _, _⟩ | ⟨v, _, _, _, e⟩ | ⟨_, _, e⟩
  · exact absurd same (other v live)
  · rw [e]
    rcases s.loseDraining_eq p v with ⟨_, e⟩ | ⟨_, e⟩ <;> rw [e] <;> simp
  · rw [e]; exact ⟨rfl, rfl⟩

/-- Settles O38: each verdict through what it counts on the live version, and a version that is not live through what is ignored. -/
theorem verdictsMoveTheFailureRun : Obligations.VerdictsMoveTheFailureRun := by
  intro s p v live most
  simp only [State.disengage_of_live live, State.profile_setProfile_same]
  refine ⟨⟨rfl, rfl⟩, ⟨rfl, rfl⟩, ?_, Profile.count_flawed_withheld_iff _, fun gen verdict other => ?_, fun q gen verdict other => ?_⟩
  · show min 15 ((s.profile p).failureRun + 1) = _
    split <;> omega
  · refine State.disengage_ignored (fun w hw => ?_) verdict
    obtain rfl := Option.some.inj (live.symm.trans hw)
    exact fun e => other e.symm
  · exact s.disengage_profile_other gen verdict fun e => other e.symm

/-! ### The findings of an end (R116) -/

theorem EndCause.abrupt_iff (cause : EndCause) :
    cause.abrupt = true ↔
      cause = .overcurrent ∨ cause = .suspendedSupply ∨ cause = .suspendedTemp ∨ cause = .safeStop ∨ cause = .softReset := by
  cases cause <;> decide

/-- The finding of the motion search, which an abrupt stop gives not (R112). -/
def Diag.motionFindings (u : Diag) (abrupt : Bool) : List Finding :=
  if abrupt then []
  else match u.motionFinding with
    | .none => []
    | .noMotion => [.noMotion]
    | .travelDrift => [.travelDrift]

/-- The finding of the resistance sample (R115). -/
def Diag.resistanceFindings (u : Diag) : List Finding :=
  match u.resistance with
  | .low => [.resLow]
  | .high => [.resHigh]
  | .within => []
  | .notJudged => []

theorem findingsOf_eq (u : Diag) (cause : EndCause) (early : Bool) :
    findingsOf u cause early =
      u.motionFindings cause.abrupt ++ (if u.hit = .short then [.hitShort] else []) ++ u.resistanceFindings ++
        (if early then [.earlyReleaseHeld] else []) := rfl

theorem Diag.mem_motionFindings (u : Diag) (abrupt : Bool) (f : Finding) :
    f ∈ u.motionFindings abrupt ↔
      abrupt = false ∧ (f = .noMotion ∧ u.motionFinding = .noMotion ∨ f = .travelDrift ∧ u.motionFinding = .travelDrift) := by
  unfold Diag.motionFindings
  cases abrupt <;> cases u.motionFinding <;> simp

theorem Diag.mem_resistanceFindings (u : Diag) (f : Finding) :
    f ∈ u.resistanceFindings ↔ f = .resLow ∧ u.resistance = .low ∨ f = .resHigh ∧ u.resistance = .high := by
  unfold Diag.resistanceFindings
  cases u.resistance <;> simp

/-- The findings stand in the order of R116. -/
theorem findingsOf_sublist (u : Diag) (cause : EndCause) (early : Bool) :
    (findingsOf u cause early).Sublist [.noMotion, .travelDrift, .hitShort, .resLow, .resHigh, .earlyReleaseHeld] := by
  have motion : (u.motionFindings cause.abrupt).Sublist [.noMotion, .travelDrift] := by
    unfold Diag.motionFindings
    cases cause.abrupt <;> cases u.motionFinding <;> decide
  have hit : (if u.hit = .short then [Finding.hitShort] else []).Sublist [.hitShort] := by split <;> decide
  have resistance : u.resistanceFindings.Sublist [.resLow, .resHigh] := by
    unfold Diag.resistanceFindings
    cases u.resistance <;> decide
  have held : (if early then [Finding.earlyReleaseHeld] else []).Sublist [.earlyReleaseHeld] := by split <;> decide
  exact ((motion.append hit).append resistance).append held

/-- Where each finding comes from. -/
theorem mem_findingsOf (u : Diag) (cause : EndCause) (early : Bool) :
    (.noMotion ∈ findingsOf u cause early ↔ cause.abrupt = false ∧ u.motionFinding = .noMotion) ∧
      (.travelDrift ∈ findingsOf u cause early ↔ cause.abrupt = false ∧ u.motionFinding = .travelDrift) ∧
      (.hitShort ∈ findingsOf u cause early ↔ u.hit = .short) ∧
      (.resLow ∈ findingsOf u cause early ↔ u.resistance = .low) ∧
      (.resHigh ∈ findingsOf u cause early ↔ u.resistance = .high) ∧
      (.earlyReleaseHeld ∈ findingsOf u cause early ↔ early = true) := by
  simp [findingsOf_eq, Diag.mem_motionFindings, Diag.mem_resistanceFindings]

/-- Settles O35, item by item of the end step. -/
theorem endStepRecordsAndDisengages : Obligations.EndStepRecordsAndDisengages := by
  intro s t ch a cause u count running rfl' rfl'' counts
  subst rfl' rfl''
  obtain ⟨stage, diag⟩ := State.endActuation_drive running cause
  have only := ChannelOnly.endActuation s ch cause
  have profile : ∀ q, (s.endActuation ch cause).profile q =
      { (s.disengage a.profile a.gen (s.endRecord ch a cause).verdict).profile q with bindingCount := count q } := fun q => by
    rw [State.endActuation_profile running cause q, counts q]; rfl
  have free := State.endActuation_free running cause
  refine ⟨⟨s.endRecord ch a cause, ?_, rfl, rfl, rfl, rfl, ?_, rfl, rfl, rfl, s.kindOf_eq_live_iff _ _, ?_, rfl,
      ⟨findingsOf_sublist _ cause _, fun abrupt ha => ?_⟩, ?_, fun v live gen => ?_⟩, fun v other draining gen => ?_,
    fun q other => ?_, stage, diag, fun c hc => ⟨only.channel c hc, only.stage c hc, only.diag c hc⟩, only.faults, only.monitor,
    only.modes, only.store, only.loader, only.link, only.inFullReset, only.pending⟩
  · show nextNumber (s.channel ch).outcome = _
    cases (s.channel ch).outcome <;> rfl
  · rw [diag]; rfl
  · show Diag.measures _ = _
    unfold Diag.measures
    cases ((s.settleUnit ch).diag ch).dipTime <;> rfl
  · obtain rfl : abrupt = cause.abrupt := Bool.eq_iff_iff.mpr (ha.trans cause.abrupt_iff.symm)
    exact mem_findingsOf _ cause _
  · rw [State.endActuation_channel_same running cause]
    simp [Channel.settled, Channel.edgeFromLine]
  · rw [profile, free, ← gen, State.disengage_of_live live, State.profile_setProfile_same]
    refine ⟨rfl, ?_⟩
    rintro _ rfl
    cases (s.endRecord ch a cause).verdict <;> rfl
  · rw [← gen] at other
    rw [profile, free, ← gen, State.disengage_of_draining other draining]
    simp only [State.loseDraining]
    refine ⟨fun one => ?_, fun more => ?_⟩
    · rw [if_pos (by omega), State.freeEntries_profile, State.profile_setProfile_same]; exact ⟨rfl, rfl⟩
    · rw [if_neg (by omega), State.profile_setProfile_same]; exact ⟨rfl, rfl⟩
  · rw [profile, State.disengage_profile_other s _ _ other]

end Sys2Proof.Machine
end


section
/-! What every step keeps of the store (R166 to R176), and that a copy is written once. -/

namespace Sys2Proof.Machine

/-! ### Sessions, writes and the lock (R168, R171, R174, R175) -/

/-- The move of the table reaches the table, the pool, and the ids that loaded. -/
theorem TableMove.frame {s t : State} (m : TableMove s t) :
    t = { s with profiles := t.profiles, free := t.free, loader := { s.loader with loaded := t.loader.loaded } } := by
  cases m with
  | fill p gen sh => unfold State.fill; split <;> rfl
  | _ => rfl

/-- Outside the part's own moves the mode, the store and the loader's place stand. -/
theorem TableMove.modes {s t : State} (m : TableMove s t) : t.modes = s.modes := by rw [m.frame]

theorem TableMove.next {s t : State} (m : TableMove s t) : t.loader.next = s.loader.next := by rw [m.frame]

/-- A store that is governed beside a part mode. -/
def Store.governed (st : Store) (m : PartMode) : Prop :=
  (st.inFlight.isSome = true → st.session ≠ .closed) ∧ (st.session = .closing → st.inFlight.isSome = true) ∧
    (st.locked = true → st.session = .closed) ∧ (st.session = .isOpen → m = .standby) ∧ (m = .loading → st.session = .closed)

theorem storeGoverned_iff (s : State) : StoreGoverned s ↔ s.store.governed s.modes.mode := Iff.rfl

theorem StoreGoverned.congr {s t : State} (h : StoreGoverned s) (store : t.store = s.store) (modes : t.modes = s.modes) :
    StoreGoverned t := by
  rw [storeGoverned_iff] at *
  rw [store, modes]; exact h

namespace Store.governed

variable {st : Store} {m : PartMode}

/-- A closed session without a write in flight is governed in every mode. -/
theorem of_closed (session : st.session = .closed) (idle : st.inFlight = none) : st.governed m := by
  simp [Store.governed, session, idle]

/-- A mode entered that is not LOADING, no session being open unless it is STANDBY. -/
theorem mode (h : st.governed m) {m' : PartMode} (loaded : m' ≠ .loading) (session : st.session = .isOpen → m' = .standby) :
    st.governed m' := by
  obtain ⟨writing, closing, locked, _, _⟩ := h
  exact ⟨writing, closing, locked, session, fun e => absurd e loaded⟩

/-- Outside STANDBY no session is open. -/
theorem not_open (h : st.governed m) (away : m ≠ .standby) : st.session ≠ .isOpen := fun e => by
  obtain ⟨_, _, _, standby, _⟩ := h
  exact away (standby e)

theorem beginWrite (h : st.governed m) (session : st.session = .isOpen) (slot : Slot) (copy : Nat) (snapshot : CopyContent) :
    (st.beginWrite slot copy snapshot).governed m := by
  obtain ⟨_, _, locked, standby, loading⟩ := h
  have same : (st.beginWrite slot copy snapshot).session = .isOpen := session
  refine ⟨fun _ => by simp [same], fun _ => rfl, fun l => ?_, fun _ => standby session, fun l => ?_⟩
  · exact locked l
  · exact loading l

theorem completeWrite (h : st.governed m) (w : Write) : (st.completeWrite w).governed m := by
  obtain ⟨_, _, locked, standby, loading⟩ := h
  have session : (st.completeWrite w).session =
      if decide (w.snapshot = .lockMark) = true ∨ st.session = .closing then .closed else st.session := rfl
  have idle : (st.completeWrite w).inFlight = none := rfl
  by_cases closes : decide (w.snapshot = .lockMark) = true ∨ st.session = .closing
  · exact of_closed (by rw [session, if_pos closes]) idle
  · rw [if_neg closes] at session
    rw [not_or] at closes
    have lock : (st.completeWrite w).locked = st.locked := by
      show (st.locked || decide (w.snapshot = .lockMark)) = st.locked
      rw [Bool.eq_false_iff.mpr closes.1, Bool.or_false]
    rw [Store.governed, session, idle, lock]
    exact ⟨by simp, fun e => absurd e closes.2, locked, standby, loading⟩

theorem settleWrite (h : st.governed m) : st.settleWrite.governed m := by
  rcases st.settleWrite_cases with ⟨_, e⟩ | ⟨w, _, ⟨_, e⟩ | ⟨_, e⟩⟩ <;> rw [e]
  · exact h
  · exact h.completeWrite w
  · exact h

theorem writePeriod (h : st.governed m) : st.writePeriod.governed m := by
  unfold Store.writePeriod
  split
  · exact h
  · next w hw =>
    obtain ⟨writing, _, rest⟩ := h
    exact ⟨fun _ => writing (by rw [hw]; rfl), fun _ => rfl, rest⟩

theorem abandon : st.abandon.governed m := of_closed st.abandon_frame.1 st.abandon_frame.2.1

/-- A session ended as the part leaves STANDBY is governed as it was, and is not open. -/
theorem leaveStandby (h : st.governed m) : st.leaveStandby.governed m := by
  unfold Store.leaveStandby
  split
  · next session =>
    obtain ⟨_, _, locked, _, loading⟩ := h
    by_cases writing : st.inFlight.isSome = true
    · simp only [writing, if_true]
      exact ⟨fun _ => nofun, fun _ => writing, fun l => (nomatch session.symm.trans (locked l)), nofun,
        fun l => (nomatch session.symm.trans (loading l))⟩
    · simp only [writing]
      exact of_closed rfl (by simpa using writing)
  · exact h
  · exact h

end Store.governed

/-- A mode that a clearing leaves: the same, or ARMED from SUSPENDED. -/
theorem State.resume_mode (s : State) :
    s.resume = { s with modes := s.resume.modes } ∧
      (s.resume.modes = s.modes ∨ s.modes.mode = .suspended ∧ s.resume.modes = { s.modes with mode := .armed }) := by
  rcases s.resume_cases with ⟨suspended, _, _, e⟩ | ⟨_, e⟩ <;> rw [e]
  · exact ⟨rfl, .inr ⟨suspended, rfl⟩⟩
  · exact ⟨rfl, .inl rfl⟩

theorem StoreGoverned.resume {s : State} (h : StoreGoverned s) : StoreGoverned s.resume := by
  have away : s.modes.mode = .suspended → s.store.session ≠ .isOpen := fun e =>
    Store.governed.not_open h (by rw [e]; nofun)
  obtain ⟨same, modes | ⟨suspended, modes⟩⟩ := s.resume_mode <;> rw [same, modes]
  · exact h
  · exact Store.governed.mode h nofun fun e => absurd e (away suspended)

theorem StoreGoverned.partMove {s t : State} (m : PartMove s t) (h : StoreGoverned s) : StoreGoverned t := by
  have governed : s.store.governed s.modes.mode := h
  cases m with
  | onset uvm ovt m _ mode =>
    rcases mode with ⟨_, rfl⟩ | ⟨armed, rfl, _⟩
    · exact h
    · exact governed.mode nofun fun e => absurd e (governed.not_open (by rw [armed]; nofun))
  | clearUvm => exact StoreGoverned.resume (s := { s with monitor := { s.monitor with uvm := false } }) h
  | clearOvt => exact StoreGoverned.resume (s := { s with monitor := { s.monitor with ovt := false } }) h
  | arm _ _ _ session => exact governed.mode nofun fun e => absurd e session
  | standby => exact governed.mode nofun fun _ => rfl
  | safe seen loaded _ session =>
    refine governed.mode nofun fun e => absurd e ?_
    by_cases standby : s.modes.mode = .standby
    · exact session standby
    · exact governed.not_open standby
  | abandon => exact Store.governed.abandon
  | leaveStandby => exact governed.leaveStandby
  | openSession standby unlocked idle =>
    exact ⟨fun _ => nofun, nofun, fun l => absurd l (by simp [State.setStore, unlocked]), fun _ => standby,
      fun l => absurd (standby.symm.trans l) nofun⟩
  | closeSession idle => exact Store.governed.of_closed rfl idle
  | writePeriod => exact governed.writePeriod
  | loadLock loading =>
    obtain ⟨writing, _, _, _, closed⟩ := governed
    have session := closed loading
    have idle : s.store.inFlight = none := by
      cases inFlight : s.store.inFlight with
      | none => rfl
      | some w => exact absurd session (writing (by rw [inFlight]; rfl))
    exact Store.governed.of_closed (st := s.loadLock.nextSlot.store) session idle
  | _ => exact h

/-! ### The copy-state record (R166, R168, R175, R179) -/

/-- The states and the cells of a slot agree on what is blank. -/
def tracks (states : List CopyState) (cells : List Cell) : Prop :=
  ∀ i : Nat, states[i]? = some .blank ↔ cells[i]? = some .blank

/-- A copy that is blank no longer, in the record as in the array. -/
theorem tracks.set {states : List CopyState} {cells : List Cell} (h : tracks states cells) (i : Nat) {c : CopyState} {cell : Cell}
    (hc : c ≠ .blank) (hcell : cell ≠ .blank) : tracks (states.set i c) (cells.set i cell) := by
  intro j
  by_cases same : i = j
  · subst same
    simp [List.getElem?_set, hc, hcell]
  · simp only [List.getElem?_set_ne same]
    exact h j

/-- A slot's states as the loader enters them. -/
theorem tracks_map_cellState (slot : Slot) (cells : List Cell) : tracks (cells.map (cellState slot)) cells := by
  have blank : ∀ cell, cellState slot cell = .blank ↔ cell = .blank := fun cell => by
    cases cell with
    | blank => simp [cellState]
    | partlyWritten => simp [cellState]
    | written c check => simp only [cellState]; split <;> simp
  intro i
  rw [List.getElem?_map]
  cases cells[i]? with
  | none => simp
  | some cell => simp [blank]

/-- The lowest blank copy of a slot is one that the record has as blank. -/
theorem Store.lowestBlank_blank {st : Store} {slot : Slot} {copy : Nat} (h : st.lowestBlank slot = some copy) :
    1 ≤ copy ∧ (st.states slot)[copy - 1]? = some .blank := by
  obtain ⟨i, hi, rfl⟩ := Option.map_eq_some_iff.mp h
  obtain ⟨lt, blank, _⟩ := List.findIdx?_eq_some_iff_getElem.mp hi
  refine ⟨Nat.le_add_left 1 i, ?_⟩
  simpa [List.getElem?_eq_getElem lt] using blank

theorem Store.states_setCopyState (st : Store) (slot other : Slot) (copy : Nat) (c : CopyState) :
    (st.setCopyState slot copy c).states other =
      if other = slot then (st.states slot).set (copy - 1) c else st.states other :=
  vector_get_set st.record slot other _

theorem Store.beginWrite_states (st : Store) (slot other : Slot) (copy : Nat) (snapshot : CopyContent) :
    (st.beginWrite slot copy snapshot).states other =
      if other = slot then (st.states slot).set (copy - 1) .spoiled else st.states other :=
  (st.setCell slot copy .partlyWritten).states_setCopyState slot other copy .spoiled

theorem Store.completeWrite_states (st : Store) (w : Write) (other : Slot) :
    (st.completeWrite w).states other =
      if other = w.slot then (st.states w.slot).set (w.copy - 1) .valid else st.states other :=
  (st.setCell w.slot w.copy _).states_setCopyState w.slot other w.copy .valid

/-- A slot has its copies, in the array as in the record. -/
def Store.sized (st : Store) : Prop :=
  ∀ slot : Slot, (st.cells slot).length = copiesOf slot ∧ (st.states slot).length = copiesOf slot

/-- The copy of a write in flight is partly written. -/
def Store.writing (st : Store) : Prop :=
  ∀ w, st.inFlight = some w → 1 ≤ w.copy ∧ (st.cells w.slot)[w.copy - 1]? = some .partlyWritten

/-- The record tracks the slots below a place. -/
def Store.trackedBelow (st : Store) (next : Nat) : Prop :=
  ∀ slot : Slot, slot.val < next → tracks (st.states slot) (st.cells slot)

theorem copiesTracked_iff (s : State) :
    CopiesTracked s ↔
      s.store.sized ∧ (s.modes.mode ≠ .loading → s.loader.next = 34) ∧ s.store.trackedBelow s.loader.next ∧ s.store.writing :=
  Iff.rfl

theorem CopiesTracked.congr {s t : State} (h : CopiesTracked s) (store : t.store = s.store) (modes : t.modes = s.modes)
    (next : t.loader.next = s.loader.next) : CopiesTracked t := by
  rw [copiesTracked_iff] at *
  rw [store, modes, next]; exact h

theorem CopiesTracked.writeMove {s t : State} (m : WriteMove s t) (h : CopiesTracked s) : CopiesTracked t := by
  obtain ⟨sized, loaded, tracked, writing⟩ := h
  cases m with
  | none => exact ⟨sized, loaded, tracked, writing⟩
  | begin slot copy snapshot away _ _ lowest =>
    obtain ⟨le, blank⟩ := Store.lowestBlank_blank lowest
    refine ⟨fun other => ?_, loaded, fun other below => ?_, ?_⟩
    · rw [State.store_setStore, Store.beginWrite_cells, Store.beginWrite_states]
      split
      · next same => subst same; simp only [List.length_set]; exact sized other
      · exact sized other
    · show tracks _ _
      rw [State.store_setStore, Store.beginWrite_cells, Store.beginWrite_states]
      split
      · next same => subst same; exact tracks.set (tracked other below) _ nofun nofun
      · exact tracked other below
    · rintro _ ⟨⟩
      refine ⟨le, ?_⟩
      have lt : copy - 1 < (s.store.cells slot).length := by
        rw [(sized slot).1, ← (sized slot).2]
        exact (List.getElem?_eq_some_iff.mp blank).1
      rw [State.store_setStore, Store.beginWrite_cells, if_pos rfl, List.getElem?_set_self lt]
  | settle =>
    rcases s.store.settleWrite_cases with ⟨_, e⟩ | ⟨w, hw, ⟨_, e⟩ | ⟨_, e⟩⟩ <;> rw [e]
    · exact ⟨sized, loaded, tracked, writing⟩
    · refine ⟨fun other => ?_, loaded, fun other below => ?_, nofun⟩
      · simp only [Store.completeWrite_cells, Store.completeWrite_states]
        split
        · next same => subst same; simp only [List.length_set]; exact sized w.slot
        · exact sized other
      · show tracks _ _
        simp only [Store.completeWrite_cells, Store.completeWrite_states]
        split
        · next same => subst same; exact tracks.set (tracked w.slot below) _ nofun nofun
        · exact tracked other below
    · exact ⟨sized, loaded, tracked, writing⟩

/-- The loader's entry of a slot's states. -/
theorem Store.recordSlot_tracks {st : Store} {next : Nat} (sized : st.sized) (tracked : st.trackedBelow next) (slot : Slot) :
    (st.recordSlot slot).sized ∧ (st.recordSlot slot).trackedBelow next ∧
      tracks ((st.recordSlot slot).states slot) ((st.recordSlot slot).cells slot) := by
  have cells : ∀ other, (st.recordSlot slot).cells other = st.cells other := fun _ => rfl
  refine ⟨fun other => ?_, fun other below => ?_, ?_⟩
  · rw [cells, Store.states_recordSlot]
    split
    · next same => subst same; simp only [List.length_map, (sized other).1, and_self]
    · exact sized other
  · rw [cells, Store.states_recordSlot]
    split
    · next same => subst same; exact tracks_map_cellState other _
    · exact tracked other below
  · rw [cells, Store.states_recordSlot, if_pos rfl]
    exact tracks_map_cellState slot _

/-- One place further, where its slot is tracked. -/
theorem Store.trackedBelow.succ {st : Store} {next : Nat} (h : st.trackedBelow next) (slot : Slot) (place : next = slot.val)
    (here : tracks (st.states slot) (st.cells slot)) : st.trackedBelow (next + 1) := by
  intro other below
  by_cases same : other = slot
  · rw [same]; exact here
  · exact h other (by have : other.val ≠ slot.val := fun e => same (Fin.ext e); omega)

theorem Store.writePeriod_record (st : Store) : st.writePeriod.record = st.record := by
  unfold Store.writePeriod
  split <;> rfl

/-- A change of the session or of the write in flight, its copy's place kept, or of a mode that is not LOADING. -/
theorem CopiesTracked.kept {s t : State} (h : CopiesTracked s) (array : t.store.array = s.store.array)
    (record : t.store.record = s.store.record) (next : t.loader.next = s.loader.next)
    (inFlight : ∀ w, t.store.inFlight = some w → ∃ x, s.store.inFlight = some x ∧ x.slot = w.slot ∧ x.copy = w.copy)
    (mode : t.modes.mode ≠ .loading → s.modes.mode ≠ .loading) : CopiesTracked t := by
  obtain ⟨sized, loaded, tracked, writing⟩ := h
  have cells : ∀ slot, t.store.cells slot = s.store.cells slot := fun slot => by unfold Store.cells; rw [array]
  have states : ∀ slot, t.store.states slot = s.store.states slot := fun slot => by unfold Store.states; rw [record]
  refine ⟨fun slot => ?_, fun away => next ▸ loaded (mode away), fun slot below => ?_, fun w hw => ?_⟩
  · rw [cells, states]; exact sized slot
  · show tracks _ _
    rw [cells, states]; exact tracked slot (next ▸ below)
  · obtain ⟨x, hx, slot, copy⟩ := inFlight w hw
    rw [cells, ← slot, ← copy]; exact writing x hx

theorem CopiesTracked.resume {s : State} (h : CopiesTracked s) : CopiesTracked s.resume := by
  obtain ⟨same, modes | ⟨suspended, modes⟩⟩ := s.resume_mode <;> rw [same, modes]
  · exact h
  · exact h.kept rfl rfl rfl (fun w hw => ⟨w, hw, rfl, rfl⟩) fun _ => by rw [suspended]; nofun

theorem CopiesTracked.partMove {s t : State} (m : PartMove s t) (h : CopiesTracked s) : CopiesTracked t := by
  have same : ∀ w, s.store.inFlight = some w → ∃ x, s.store.inFlight = some x ∧ x.slot = w.slot ∧ x.copy = w.copy :=
    fun w hw => ⟨w, hw, rfl, rfl⟩
  have moved := m.copies
  cases m with
  | onset uvm ovt m _ mode =>
    refine h.kept rfl rfl rfl same fun away => ?_
    rcases mode with ⟨_, rfl⟩ | ⟨armed, _, _⟩
    · exact away
    · rw [armed]; nofun
  | clearUvm => exact CopiesTracked.resume (s := { s with monitor := { s.monitor with uvm := false } }) h
  | clearOvt => exact CopiesTracked.resume (s := { s with monitor := { s.monitor with ovt := false } }) h
  | arm standby => exact h.kept rfl rfl rfl same fun _ => by rw [standby]; nofun
  | standby loaded => exact h.kept rfl rfl rfl same fun _ => loaded
  | safe seen loaded => exact h.kept rfl rfl rfl same fun _ => loaded
  | abandon => exact h.kept moved.1 s.store.abandon_frame.2.2.2.1 rfl (by simp [s.store.abandon_inFlight]) id
  | leaveStandby =>
    exact h.kept moved.1 (by rw [s.store.leaveStandby_frame]) rfl (by rw [s.store.leaveStandby_frame]; exact same) id
  | writePeriod =>
    refine h.kept moved.1 s.store.writePeriod_record rfl (fun w hw => ?_) id
    obtain ⟨x, hx, _, slot, copy⟩ := moved.2 w hw
    exact ⟨x, hx, slot, copy⟩
  | recordSlot slot =>
    obtain ⟨sized, loaded, tracked, writing⟩ := h
    obtain ⟨sized', tracked', _⟩ := Store.recordSlot_tracks sized tracked slot
    exact ⟨sized', loaded, tracked', writing⟩
  | nextSlot slot next loading recorded =>
    obtain ⟨sized, _, tracked, writing⟩ := h
    have here : tracks (s.store.states slot) (s.store.cells slot) := by rw [recorded]; exact tracks_map_cellState slot _
    exact ⟨sized, fun away => absurd loading away,
      Store.trackedBelow.succ tracked slot next here, writing⟩
  | loadLock loading next =>
    obtain ⟨sized, _, tracked, writing⟩ := h
    obtain ⟨sized', tracked', here⟩ := Store.recordSlot_tracks sized tracked lockSlot
    exact ⟨sized', fun _ => by rw [State.loadLock]; exact congrArg (· + 1) next, Store.trackedBelow.succ tracked' lockSlot next here, writing⟩
  | _ => exact h.kept rfl rfl rfl same id

theorem CopiesTracked.fullReset {s : State} (h : CopiesTracked s) : CopiesTracked s.toFullReset := by
  obtain ⟨sized, _⟩ := h
  refine ⟨fun slot => ⟨(sized slot).1, ?_⟩, fun away => absurd rfl away, fun slot below => absurd below (Nat.not_lt_zero _), nofun⟩
  show (blankRecord.get slot).length = _
  simp [blankRecord, Vector.get_eq_getElem]

/-- Settles O58, move by move of the store. -/
theorem everyStepKeepsTheStoreConsistent : Obligations.EveryStepKeepsTheStoreConsistent := by
  refine ⟨fun s t hs h => step_keeps (P := StoreGoverned) (fun _ _ h => h) (fun s t m h => ?_) (fun s t m h => ?_) hs h,
    fun s t hs h => step_keeps (P := CopiesTracked) (fun _ _ h => h) (fun _ _ m h => h.writeMove m) (fun s t m h => ?_) hs h⟩
  · cases m with
    | none => exact h
    | begin slot copy snapshot _ session => exact Store.governed.beginWrite h session slot copy snapshot
    | settle => exact Store.governed.settleWrite h
  · cases m with
    | table m => exact h.congr m.store m.modes
    | channel ch m =>
      obtain ⟨_, _, _, modes, store, _⟩ := m.rest
      exact h.congr store modes
    | part m => exact h.partMove m
    | fullReset => exact Store.governed.of_closed rfl rfl
  · cases m with
    | table m => exact h.congr m.store m.modes m.next
    | channel ch m =>
      obtain ⟨_, _, _, modes, store, loader, _⟩ := m.rest
      exact h.congr store modes (by rw [loader])
    | part m => exact h.partMove m
    | fullReset => exact h.fullReset

/-! ### The copies are written once (R166, R175) -/

/-- After its store write a step writes no copy. -/
theorem Effect.array {s t : State} (m : Effect s t) : t.store.array = s.store.array := by
  cases m with
  | table m => rw [m.store]
  | channel ch m =>
    obtain ⟨_, _, _, _, store, _⟩ := m.rest
    rw [store]
  | part m => exact m.copies.1
  | fullReset => rfl

/-- A step leaves the array as its store write left it. -/
theorem step_array {s t : State} (h : step s = .next t) :
    ∃ q u, WriteMove { s with pending := q } u ∧ t.store.array = u.store.array := by
  unfold step at h
  split at h
  · exact ⟨s.pending, s, .none s, by rw [Host.Outcome.next.inj h]⟩
  · obtain ⟨u, first, then_⟩ := exec_made h
    exact ⟨_, u, first, then_.keeps (P := fun v => v.store.array = u.store.array) (fun _ _ m h => m.array.trans h) rfl⟩

theorem Store.governed.unlocked {st : Store} {m : PartMode} (h : st.governed m) (session : st.session ≠ .closed) :
    st.locked = false := by
  obtain ⟨_, _, locked, _⟩ := h
  exact Bool.eq_false_iff.mpr fun l => session (locked l)

/-- What a store write does to one copy. -/
theorem WriteMove.copy {s t : State} (m : WriteMove s t) (tracked : CopiesTracked s) (governed : StoreGoverned s) (slot : Slot)
    (i : Nat) :
    (t.store.cells slot)[i]? = (s.store.cells slot)[i]? ∨
      (s.store.locked = false ∧ (s.store.cells slot)[i]? = some .blank ∧ (t.store.cells slot)[i]? = some .partlyWritten) ∨
      (s.store.locked = false ∧ (s.store.cells slot)[i]? = some .partlyWritten ∧
        ∃ w, s.store.inFlight = some w ∧ w.slot = slot ∧ w.copy = i + 1 ∧
          (t.store.cells slot)[i]? = some (.written w.snapshot (checkWord w.snapshot))) := by
  obtain ⟨_, loaded, tracks, writing⟩ := tracked
  have unlocked : s.store.session ≠ .closed → s.store.locked = false := Store.governed.unlocked governed
  cases m with
  | none => exact .inl rfl
  | begin other copy snapshot away session _ lowest =>
    obtain ⟨le, recorded⟩ := Store.lowestBlank_blank lowest
    have blank := (tracks other (by rw [loaded away]; exact other.isLt) (copy - 1)).mp recorded
    rw [State.store_setStore, Store.beginWrite_cells]
    by_cases here : slot = other ∧ copy - 1 = i
    · obtain ⟨rfl, rfl⟩ := here
      refine .inr (.inl ⟨unlocked (by rw [session]; nofun), blank, ?_⟩)
      rw [if_pos rfl, List.getElem?_set_self (List.getElem?_eq_some_iff.mp blank).1]
    · refine .inl ?_
      split
      · next same => rw [List.getElem?_set_ne fun e => here ⟨same, e⟩, same]
      · rfl
  | settle =>
    rcases s.store.settleWrite_cases with ⟨_, e⟩ | ⟨w, hw, ⟨_, e⟩ | ⟨_, e⟩⟩
    · rw [e]; exact .inl rfl
    · obtain ⟨le, partly⟩ := writing w hw
      have session : s.store.session ≠ .closed := governed.1 (by rw [hw]; rfl)
      simp only [e, Store.completeWrite_cells]
      by_cases here : slot = w.slot ∧ w.copy - 1 = i
      · obtain ⟨rfl, rfl⟩ := here
        refine .inr (.inr ⟨unlocked session, partly, w, hw, rfl, by omega, ?_⟩)
        rw [if_pos rfl, List.getElem?_set_self (List.getElem?_eq_some_iff.mp partly).1]
      · refine .inl ?_
        split
        · next same => rw [List.getElem?_set_ne fun e => here ⟨same, e⟩, same]
        · rfl
    · rw [e]; exact .inl rfl

/-- Settles O59: a step changes the array by its store write alone, and that writes a blank copy or completes the one in flight. -/
theorem copiesAreWrittenOnce : Obligations.CopiesAreWrittenOnce := by
  intro s t tracked governed h slot i
  obtain ⟨q, u, write, array⟩ := step_array h
  have cells : t.store.cells slot = u.store.cells slot := by unfold Store.cells; rw [array]
  rw [cells]
  exact write.copy tracked governed slot i

end Sys2Proof.Machine
end


section
/-! What every step keeps of the modes and the drive (R97, R144, R155 to R163), and of the channels, their stages, latches and pull
checks (R62, R63, R68, R73, R84, R135, R138, R139). -/

namespace Sys2Proof.Machine

/-! ### What a move of a channel makes of the channels -/

/-- The move of a channel reaches the record, the stage and the fault items of no other. -/
theorem ChannelMove.others {ch : ChannelId} {s t : State} (m : ChannelMove ch s t) {c : ChannelId} (other : c ≠ ch) :
    t.channel c = s.channel c ∧ t.stage c = s.stage c ∧ t.chFault c = s.chFault c := by
  have only : ∀ {u v : State}, ChannelOnly ch u v → v.channel c = u.channel c ∧ v.stage c = u.stage c ∧ v.chFault c = u.chFault c :=
    fun h => ⟨h.channel c other, h.stage c other, h.chFault c⟩
  have bind : ∀ p, ChannelOnly ch s (s.bindTo ch p) := fun p => by
    unfold State.bindTo
    split
    · exact .refl ch s
    · exact ((ChannelOnly.removeBinding s ch).trans (.setProfile _ ch p _)).trans (.setChannel _ ch _)
  have fault : ∀ (u : State) f, (u.setChFault ch f).chFault c = u.chFault c := fun u f => by
    rw [State.chFault_setChFault, if_neg other]
  have record : ∀ (u : State) r, (u.setChannel ch r).channel c = u.channel c := fun u r => by
    rw [State.channel_setChannel, if_neg other]
  cases m with
  | unit u => exact only (.setDiag s ch u)
  | run a b => exact only (.setChannel s ch _)
  | stage st => exact only (.setStage s ch st)
  | finish cause => exact only (.endActuation s ch cause)
  | record r => exact only (.setChannel s ch r)
  | edge armed => exact only (.setChannel s ch _)
  | start _ o p gen started =>
    obtain ⟨v, _, _, _, _, rfl⟩ := State.start_eq_started started
    exact ⟨by simp [State.started, record], rfl, fault _ _⟩
  | pull r => exact ⟨rfl, rfl, fault s _⟩
  | latch => exact ⟨record _ _, rfl, fault s _⟩
  | trip =>
    obtain ⟨hc, hs, hf⟩ := only (.endActuation (s.setChFault ch
      { s.chFault ch with overcurrent := true, overcurrentPresent := true, tripPeriod := true }) ch .overcurrent)
    exact ⟨hc, hs, hf.trans (fault s _)⟩
  | clear =>
    simp only [State.clearLatches]
    split
    · exact ⟨rfl, rfl, rfl⟩
    · split
      · exact ⟨rfl, rfl, fault s _⟩
      · exact ⟨record _ _, rfl, (fault _ _).trans (fault s _)⟩
  | soft => exact ⟨record _ _, (ChannelOnly.setStage (s.setChFault ch _) ch _).stage c other, fault s _⟩
  | bind p => exact only ((bind p).trans (.settleEdge _ ch))
  | rebind p => exact only (bind p)
  | unbindLater => exact only (.setChannel s ch _)
  | unbind => exact only ((ChannelOnly.removeBinding s ch).trans (.setChannel _ ch _))
  | settings t check =>
    simp only [State.applySettings]
    split
    · exact ⟨record s _, rfl, rfl⟩
    · exact ⟨record s _, rfl, fault _ _⟩

/-- What a property of a channel's record, stage and fault items asks of the moves of a channel: it is kept of the channel that moves.
Then it is kept of all. -/
theorem ChannelMove.each {P : Channel → Stage → ChannelFault → Prop} {ch : ChannelId} {s t : State} (m : ChannelMove ch s t)
    (h : ∀ c, P (s.channel c) (s.stage c) (s.chFault c)) (own : P (t.channel ch) (t.stage ch) (t.chFault ch)) (c : ChannelId) :
    P (t.channel c) (t.stage c) (t.chFault c) := by
  by_cases other : c = ch
  · rw [other]; exact own
  · obtain ⟨hc, hs, hf⟩ := m.others other
    rw [hc, hs, hf]; exact h c

/-- A property of the channels' records, stages and fault items that every move keeps of the channel that moves, and that holds after a
full reset, every step keeps. -/
theorem step_keeps_each {P : Channel → Stage → ChannelFault → Prop}
    (own : ∀ {ch : ChannelId} {s t : State}, ChannelMove ch s t → P (s.channel ch) (s.stage ch) (s.chFault ch) →
      P (t.channel ch) (t.stage ch) (t.chFault ch))
    (reset : P Channel.reset Stage.reset ChannelFault.reset) {s t : State}
    (hs : ∀ c, P (s.channel c) (s.stage c) (s.chFault c)) (h : step s = .next t) :
    ∀ c, P (t.channel c) (t.stage c) (t.chFault c) := by
  have congr : ∀ {s t : State}, (∀ c, P (s.channel c) (s.stage c) (s.chFault c)) → t.channels = s.channels →
      t.stages = s.stages → t.faults.channels = s.faults.channels → ∀ c, P (t.channel c) (t.stage c) (t.chFault c) :=
    fun h hc hs hf c => by
      unfold State.channel State.stage State.chFault at *
      rw [hc, hs, hf]; exact h c
  refine step_keeps (P := fun s => ∀ c, P (s.channel c) (s.stage c) (s.chFault c)) (fun _ _ h => h) (fun s t m h => ?_)
    (fun s t m h => ?_) hs h
  · rw [m.rest]; exact h
  · cases m with
    | table m => rw [m.frame]; exact h
    | channel ch m => exact m.each h (own m (h ch))
    | part m =>
      obtain ⟨_, _, channels, stages, faults⟩ := m.drive
      exact congr h channels stages faults
    | fullReset =>
      intro c
      simpa [State.toFullReset, State.fullReset, State.channel, State.stage, State.chFault, FaultUnit.reset,
        Vector.get_eq_getElem] using reset

/-! ### Bindings of one channel -/

theorem State.bindTo_channel_same (s : State) (ch : ChannelId) (p : ProfileId) :
    (s.bindTo ch p).channel ch = { s.channel ch with binding := some p } := by
  unfold State.bindTo
  split
  · next bound => rw [← bound]
  · simp [State.countBinding, s.removeBinding_channel_same ch]

theorem State.bindTo_frame (s : State) (ch : ChannelId) (p : ProfileId) :
    s.bindTo ch p = { s with profiles := (s.bindTo ch p).profiles, channels := (s.bindTo ch p).channels } := by
  unfold State.bindTo
  split
  · rfl
  · simp only [State.countBinding]
    rw [s.removeBinding_frame ch]; rfl

/-! ### Channels, stages and latches (R62, R63, R68, R73, R84) -/

/-- A channel whose record, stage and latches go together. -/
def Channel.consistent (c : Channel) (st : Stage) (f : ChannelFault) : Prop :=
  (f.latched = true → c.running = none) ∧ (c.running = none → st.mode = .off ∧ st.duty = 0) ∧
    (c.edgeArmed = true → (!c.running.isSome && !f.latched && c.binding.isSome) = true) ∧
    (c.unbindPending = true → c.running.isSome = true)

theorem channelsConsistent_iff (s : State) :
    ChannelsConsistent s ↔ ∀ ch, (s.channel ch).consistent (s.stage ch) (s.chFault ch) := Iff.rfl

/-- A channel that has settled its record with no actuation running, its stage OFF. -/
theorem Channel.consistent_settled {c : Channel} {st : Stage} {f : ChannelFault} (idle : c.running = none)
    (off : st.mode = .off ∧ st.duty = 0) : (c.settled f.latched).consistent st f := by
  refine ⟨fun _ => idle, fun _ => off, fun armed => ?_, nofun⟩
  simp only [Channel.settled, Bool.and_eq_true] at armed ⊢
  obtain ⟨⟨⟨running, latched⟩, pending, bound⟩, _⟩ := armed
  have kept : c.unbindPending = false := by simpa using pending
  exact ⟨⟨running, latched⟩, by simpa [kept] using bound⟩

/-- A channel whose edge-armed flag has been set from its line. -/
theorem State.consistent_settleEdge {s : State} {ch : ChannelId}
    (latched : (s.chFault ch).latched = true → (s.channel ch).running = none)
    (off : (s.channel ch).running = none → (s.stage ch).mode = .off ∧ (s.stage ch).duty = 0)
    (pending : (s.channel ch).unbindPending = true → (s.channel ch).running.isSome = true) :
    ((s.settleEdge ch).channel ch).consistent ((s.settleEdge ch).stage ch) ((s.settleEdge ch).chFault ch) := by
  simp only [State.settleEdge, State.channel_setChannel_same]
  exact ⟨latched, off, fun armed => (Bool.and_eq_true_iff.mp armed).1, pending⟩

/-- The end step of a driving channel leaves its record, its stage and its latches together. -/
theorem State.consistent_endActuation {s : State} {ch : ChannelId} {a : Actuation} (running : (s.channel ch).running = some a)
    (cause : EndCause) :
    ((s.endActuation ch cause).channel ch).consistent ((s.endActuation ch cause).stage ch) ((s.endActuation ch cause).chFault ch) := by
  obtain ⟨stage, _⟩ := State.endActuation_drive running cause
  rw [State.endActuation_channel_same running cause, stage, (ChannelOnly.endActuation s ch cause).chFault]
  exact Channel.consistent_settled rfl ⟨rfl, rfl⟩

theorem ChannelMove.consistent {ch : ChannelId} {s t : State} (m : ChannelMove ch s t)
    (h : (s.channel ch).consistent (s.stage ch) (s.chFault ch)) : (t.channel ch).consistent (t.stage ch) (t.chFault ch) := by
  have whole := h
  obtain ⟨latched, off, armed, pending⟩ := h
  have unlatched : (s.channel ch).running.isSome = true → (s.chFault ch).latched = false := fun running =>
    Bool.eq_false_iff.mpr fun l => by rw [latched l] at running; cases running
  have unarmed : (s.channel ch).running.isSome = true → (s.channel ch).edgeArmed = false := fun running =>
    Bool.eq_false_iff.mpr fun e => by simpa [running] using armed e
  cases m with
  | unit u => exact whole
  | run a b running =>
    have driving : (s.channel ch).running.isSome = true := by rw [running]; rfl
    simp [State.setRunning, Channel.consistent, unlatched driving, unarmed driving]
  | stage st idle =>
    rw [State.stage_setStage_same]
    refine ⟨latched, fun e => ?_, armed, pending⟩
    obtain ⟨mode, duty⟩ := idle e
    rw [mode, duty]; exact off e
  | finish cause =>
    cases running : (s.channel ch).running with
    | none => rw [State.endActuation_of_not_running cause running]; exact whole
    | some a => exact State.consistent_endActuation running cause
  | record c binding hp running edge check =>
    rw [State.channel_setChannel_same]
    unfold Channel.consistent
    rw [binding, hp, running, edge]; exact whole
  | edge e ready =>
    simp only [State.setEdge, State.channel_setChannel_same]
    exact ⟨latched, off, ready, pending⟩
  | start _ o p gen started ready =>
    obtain ⟨v, _, _, _, _, rfl⟩ := State.start_eq_started started
    have free : (s.chFault ch).latched = false := by
      simp only [State.ready, Bool.and_eq_true, Bool.not_eq_true'] at ready
      exact ready.1.2
    simp only [State.started, State.setChFault_channel, State.setDiag_channel, State.channel_setChannel_same,
      State.chFault_setChFault_same]
    exact ⟨fun l => absurd (free.symm.trans l) nofun, nofun, nofun, fun _ => rfl⟩
  | pull r =>
    rw [State.chFault_setChFault_same]
    exact ⟨latched, off, armed, pending⟩
  | latch due =>
    simp only [State.openLoadDue, State.driving, Bool.and_eq_true, Bool.not_eq_true', Option.isSome_eq_false_iff,
      Option.isNone_iff_eq_none] at due
    obtain ⟨⟨⟨idle, _⟩, _⟩, _⟩ := due
    simp only [State.latchOpenLoad, State.setChFault_channel, State.channel_setChannel_same]
    exact ⟨fun _ => idle, off, nofun, pending⟩
  | trip driving =>
    obtain ⟨a, running⟩ := Option.isSome_iff_exists.mp driving
    exact State.consistent_endActuation (s := s.setChFault ch _) running .overcurrent
  | clear =>
    simp only [State.clearLatches]
    split
    · exact whole
    · next hl =>
      have hl : (s.chFault ch).latched = true := by simpa using hl
      have idle := latched hl
      split
      · rw [State.chFault_setChFault_same]
        refine ⟨fun _ => idle, off, fun e => ?_, pending⟩
        simpa [hl] using armed e
      · exact State.consistent_settleEdge (s := (s.setChFault ch _).setChFault ch _) (fun _ => idle) off pending
  | soft idle =>
    exact State.consistent_settleEdge (s := (s.setChFault ch _).setStage ch _) (fun _ => idle) (by simp) pending
  | bind p =>
    have frame := s.bindTo_frame ch p
    have record := s.bindTo_channel_same ch p
    refine State.consistent_settleEdge ?_ ?_ ?_
    · rw [record, frame]; exact latched
    · rw [record, frame]; exact off
    · rw [record]; exact pending
  | rebind p idle =>
    rw [State.bindTo_channel_same, State.bindTo_frame]
    refine ⟨latched, off, fun e => ?_, pending⟩
    have := armed e
    simp only [Bool.and_eq_true] at this ⊢
    exact ⟨this.1, rfl⟩
  | unbindLater driving =>
    rw [State.channel_setChannel_same]
    exact ⟨latched, off, armed, fun _ => driving⟩
  | unbind idle =>
    simp only [State.unbindNow, State.channel_setChannel_same, s.removeBinding_channel_same ch]
    rw [s.removeBinding_frame ch]
    exact ⟨fun _ => idle, off, nofun, pending⟩
  | settings t check =>
    simp only [State.applySettings]
    split
    · rw [State.channel_setChannel_same]; exact whole
    · simp only [State.removePull, State.setChFault_channel, State.channel_setChannel_same, State.chFault_setChFault_same]
      exact whole

/-! ### Pull checks (R135, R138, R139) -/

/-- A channel whose pull check runs, and whose window counts, only where the manual lets them. -/
def Channel.pullGoverned (c : Channel) (f : ChannelFault) : Prop :=
  (c.running.isSome = true ∨ c.openLoadCheck = false → f.pull = .notRunning ∧ f.window = 0) ∧
    (f.latched = true → c.running = none ∧ f.window = 0) ∧ f.window ≤ Config.openLoadPeriods

theorem pullGoverned_iff (s : State) : PullGoverned s ↔ ∀ ch, (s.channel ch).pullGoverned (s.chFault ch) := Iff.rfl

/-- A pull check that does not run, and a window at 0. -/
theorem Channel.pullGoverned_of_removed {c : Channel} {f : ChannelFault} (pull : f.pull = .notRunning) (window : f.window = 0)
    (latched : f.latched = true → c.running = none) : c.pullGoverned f :=
  ⟨fun _ => ⟨pull, window⟩, fun l => ⟨latched l, window⟩, by omega⟩

/-- The same pull check on a channel that drives as before, its check as it was. -/
theorem Channel.pullGoverned.congr {c d : Channel} {f : ChannelFault} (h : c.pullGoverned f)
    (running : d.running.isSome = c.running.isSome) (check : d.openLoadCheck = c.openLoadCheck) : d.pullGoverned f := by
  have none_iff : d.running = none ↔ c.running = none := by
    rw [← Option.not_isSome_iff_eq_none, ← Option.not_isSome_iff_eq_none, running]
  unfold Channel.pullGoverned
  rw [running, check, none_iff]; exact h

/-- A period of a channel that does not drive keeps its pull check governed (R138, R139). -/
theorem Channel.pullGoverned.period {c : Channel} {f : ChannelFault} (idle : c.running = none) (r : PeriodReport) :
    c.pullGoverned (f.period c.openLoadCheck r) := by
  refine ⟨fun off => ?_, fun latched => ⟨idle, ?_⟩, ?_⟩
  · have check : c.openLoadCheck = false := by simpa [idle] using off
    simp [ChannelFault.period, ChannelFault.pulled, check]
  · have latched : f.latched = true := latched
    simp [ChannelFault.period, latched]
  · simp only [ChannelFault.period]
    split
    · exact Nat.min_le_left ..
    · exact Nat.zero_le _

theorem ChannelMove.pullGoverned {ch : ChannelId} {s t : State} (m : ChannelMove ch s t)
    (h : (s.channel ch).pullGoverned (s.chFault ch)) : (t.channel ch).pullGoverned (t.chFault ch) := by
  have whole := h
  obtain ⟨removed, latched, most⟩ := h
  -- a driving channel's pull is removed, and no latch of it is set
  have driven : (s.channel ch).running.isSome = true →
      (s.chFault ch).pull = .notRunning ∧ (s.chFault ch).window = 0 ∧ (s.chFault ch).latched = false := fun running =>
    ⟨(removed (.inl running)).1, (removed (.inl running)).2, Bool.eq_false_iff.mpr fun l => by
      rw [(latched l).1] at running; cases running⟩
  cases m with
  | unit u | stage st => exact whole
  | run a b running => exact whole.congr (by simp [State.setRunning, running]) (by simp [State.setRunning])
  | finish cause =>
    rw [(ChannelOnly.endActuation s ch cause).chFault]
    cases running : (s.channel ch).running with
    | none => rw [State.endActuation_of_not_running cause running]; exact whole
    | some a =>
      obtain ⟨pull, window, _⟩ := driven (by rw [running]; rfl)
      exact Channel.pullGoverned_of_removed pull window fun _ => s.endActuation_running ch cause
  | record c binding hp running edge check => exact whole.congr (by simp [running]) (by simp [check])
  | edge e ready => exact whole.congr (by simp [State.setEdge]) (by simp [State.setEdge])
  | start _ o p gen started ready =>
    obtain ⟨v, _, _, _, _, rfl⟩ := State.start_eq_started started
    have free : (s.chFault ch).latched = false := by
      simp only [State.ready, Bool.and_eq_true, Bool.not_eq_true'] at ready
      exact ready.1.2
    rw [State.started, State.chFault_setChFault_same]
    exact Channel.pullGoverned_of_removed rfl rfl fun l => absurd (free.symm.trans l) nofun
  | pull r idle =>
    rw [State.chFault_setChFault_same]
    exact Channel.pullGoverned.period idle r
  | latch due =>
    simp only [State.openLoadDue, State.driving, Bool.and_eq_true, Bool.not_eq_true', Option.isSome_eq_false_iff,
      Option.isNone_iff_eq_none] at due
    obtain ⟨⟨⟨idle, _⟩, check⟩, _⟩ := due
    simp only [State.latchOpenLoad, State.setChannel_chFault, State.chFault_setChFault_same, State.channel_setChannel_same,
      State.setChFault_channel]
    exact ⟨by simp [idle, check], fun _ => ⟨idle, rfl⟩, Nat.zero_le _⟩
  | trip driving =>
    obtain ⟨pull, window, _⟩ := driven driving
    have frame := (ChannelOnly.endActuation (s.setChFault ch
      { s.chFault ch with overcurrent := true, overcurrentPresent := true, tripPeriod := true }) ch .overcurrent).chFault ch
    simp only [State.trip, State.abruptStop, frame, State.chFault_setChFault_same]
    exact Channel.pullGoverned_of_removed pull window fun _ => State.endActuation_running _ ch _
  | clear =>
    simp only [State.clearLatches]
    split
    · exact whole
    · next hl =>
      obtain ⟨idle, window⟩ := latched (by simpa using hl)
      have cleared : (s.channel ch).pullGoverned (s.chFault ch).clear := ⟨removed, fun _ => ⟨idle, window⟩, most⟩
      split
      · rw [State.chFault_setChFault_same]; exact cleared
      · simp only [State.settleEdge, State.setChannel_chFault, State.chFault_setChFault_same, State.channel_setChannel_same,
          State.setChFault_channel]
        exact ⟨fun e => ⟨(removed e).1, rfl⟩, fun _ => ⟨idle, rfl⟩, Nat.zero_le _⟩
  | soft idle =>
    simp only [State.softResetChannel, State.settleEdge, State.setChannel_chFault, State.setStage_chFault,
      State.chFault_setChFault_same, State.channel_setChannel_same, State.setChFault_channel, State.setStage_channel]
    exact ⟨fun e => ⟨(removed e).1, rfl⟩, fun _ => ⟨idle, rfl⟩, Nat.zero_le _⟩
  | bind p =>
    have fault : ((s.bindTo ch p).settleEdge ch).chFault ch = s.chFault ch := by
      rw [(ChannelOnly.settleEdge _ ch).chFault, s.bindTo_frame ch p]; rfl
    rw [fault]
    exact whole.congr (by simp [State.settleEdge, s.bindTo_channel_same ch p]) (by simp [State.settleEdge, s.bindTo_channel_same ch p])
  | rebind p idle =>
    have fault : (s.bindTo ch p).chFault ch = s.chFault ch := by rw [s.bindTo_frame ch p]; rfl
    rw [fault, s.bindTo_channel_same ch p]
    exact whole.congr rfl rfl
  | unbindLater driving => exact whole.congr (by simp) (by simp)
  | unbind idle =>
    rw [State.unbindNow, (ChannelOnly.setChannel _ ch _).chFault, (ChannelOnly.removeBinding s ch).chFault,
      State.channel_setChannel_same, s.removeBinding_channel_same ch]
    exact whole.congr rfl rfl
  | settings t check =>
    simp only [State.applySettings]
    split
    · next on =>
      rw [State.channel_setChannel_same]
      refine ⟨fun e => removed (.inl ?_), latched, most⟩
      simpa [on] using e
    · simp only [State.removePull, State.setChFault_channel, State.channel_setChannel_same, State.chFault_setChFault_same]
      exact Channel.pullGoverned_of_removed rfl rfl fun l => (latched l).1

/-- Settles O57, move by move of one channel. -/
theorem everyStepKeepsChannelsConsistent : Obligations.EveryStepKeepsChannelsConsistent :=
  ⟨fun _ _ => step_keeps_each (P := Channel.consistent) ChannelMove.consistent ⟨nofun, fun _ => ⟨rfl, rfl⟩, nofun, nofun⟩,
    fun _ _ => step_keeps_each (P := fun c _ f => c.pullGoverned f) ChannelMove.pullGoverned
      (Channel.pullGoverned_of_removed rfl rfl fun _ => rfl)⟩

end Sys2Proof.Machine
end


section
/-! What every step keeps of the modes, the drive, nSAFE and the conditions (R97, R144, R155 to R163). -/

namespace Sys2Proof.Machine

/-! ### Drive and mode (R97) -/

theorem ModeGovernsDrive.congr {s t : State} (h : ModeGovernsDrive s) (channels : t.channels = s.channels)
    (modes : t.modes = s.modes) : ModeGovernsDrive t := by
  unfold ModeGovernsDrive State.channel at *
  rw [channels, modes]; exact h

/-- A mode entered with no channel driving. -/
theorem ModeGovernsDrive.of_stopped {s : State} (stopped : ∀ ch, (s.channel ch).running = none) : ModeGovernsDrive s :=
  fun ch _ running => absurd ((stopped ch).symm.trans running) nofun

/-- In a mode that is neither ARMED nor STANDBY no channel drives. -/
theorem ModeGovernsDrive.stopped {s : State} (h : ModeGovernsDrive s) (armed : s.modes.mode ≠ .armed)
    (standby : s.modes.mode ≠ .standby) (ch : ChannelId) : (s.channel ch).running = none := by
  cases running : (s.channel ch).running with
  | none => rfl
  | some a =>
    rcases h ch a running with e | ⟨e, _⟩
    · exact absurd e armed
    · exact absurd e standby

/-- What the move of a channel makes of its own actuation. -/
theorem ChannelMove.ownRunning {ch : ChannelId} {s t : State} (m : ChannelMove ch s t) {b : Actuation}
    (running : (t.channel ch).running = some b) :
    s.modes.mode = .armed ∨
      ∃ a, (s.channel ch).running = some a ∧
        (b.seq = .energize → a.seq = .energize ∧ (a.heldFrom.isSome = true → b.heldFrom.isSome = true)) := by
  have same : (t.channel ch).running = (s.channel ch).running →
      ∃ a, (s.channel ch).running = some a ∧
        (b.seq = .energize → a.seq = .energize ∧ (a.heldFrom.isSome = true → b.heldFrom.isSome = true)) :=
    fun e => ⟨b, e ▸ running, fun h => ⟨h, id⟩⟩
  cases m with
  | unit | stage | pull => exact .inr (same rfl)
  | run a b' was _ _ held =>
    simp only [State.setRunning, State.channel_setChannel_same, Option.some.injEq] at running
    subst running
    exact .inr ⟨a, was, held⟩
  | finish cause => rw [State.endActuation_running] at running; cases running
  | record c _ _ kept => exact .inr (same (by simp [kept]))
  | edge | unbindLater => exact .inr (same (by simp [State.setEdge]))
  | start _ _ _ _ _ _ armed => exact .inl armed
  | latch => exact .inr (same (by simp [State.latchOpenLoad]))
  | trip =>
    rw [State.trip, State.abruptStop, State.endActuation_running] at running
    cases running
  | clear =>
    refine .inr (same ?_)
    simp only [State.clearLatches]
    split
    · rfl
    · split <;> simp [State.settleEdge]
  | soft => exact .inr (same (by simp [State.softResetChannel, State.settleEdge]))
  | bind p => exact .inr (same (by simp [State.settleEdge_running, s.bindTo_channel_same ch p]))
  | rebind p => exact .inr (same (by simp [s.bindTo_channel_same ch p]))
  | unbind => exact .inr (same (by simp [State.unbindNow, s.removeBinding_channel_same ch]))
  | settings trigger check =>
    refine .inr (same ?_)
    simp only [State.applySettings]
    split <;> simp [State.removePull]

theorem ModeGovernsDrive.channelMove {ch : ChannelId} {s t : State} (m : ChannelMove ch s t) (h : ModeGovernsDrive s) :
    ModeGovernsDrive t := by
  obtain ⟨_, _, _, modes, _⟩ := m.rest
  intro c b running
  rw [modes]
  by_cases own : c = ch
  · subst own
    rcases m.ownRunning running with armed | ⟨a, was, kept⟩
    · exact .inl armed
    · refine (h c a was).imp id fun ⟨standby, released⟩ => ⟨standby, fun energize => ?_⟩
      obtain ⟨before, held⟩ := kept energize
      exact held (released before)
  · rw [(m.others own).1] at running
    exact h c b running

/-- The mode after LOADING is STANDBY, SAFE or ARMED. -/
theorem State.modeAfterLoading_cases (s : State) :
    (s.modes.nsafeRemembered = true ∧ s.modeAfterLoading = .safe) ∨
      (s.modes.nsafeRemembered = false ∧ s.modeAfterLoading = .standby) ∨
      (s.modes.nsafeRemembered = false ∧ s.monitor.uvm = false ∧ s.monitor.ovt = false ∧ s.modeAfterLoading = .armed) := by
  unfold State.modeAfterLoading
  split
  · next remembered => exact .inl ⟨remembered, rfl⟩
  · next forgotten =>
    have forgotten := Bool.eq_false_iff.mpr forgotten
    split
    · exact .inr (.inl ⟨forgotten, rfl⟩)
    · split
      · exact .inr (.inl ⟨forgotten, rfl⟩)
      · next absent =>
        simp only [Bool.or_eq_true, not_or, Bool.not_eq_true] at absent
        exact .inr (.inr ⟨forgotten, absent.1, absent.2, rfl⟩)

theorem State.loadLock_eq (s : State) :
    ∃ locked, s.loadLock.nextSlot =
      { s with
        store := { s.store.recordSlot lockSlot with locked := locked }
        modes := { s.modes with mode := s.modeAfterLoading }
        loader := { s.loader with next := s.loader.next + 1 } } := ⟨_, rfl⟩

theorem ModeGovernsDrive.partMove {s t : State} (m : PartMove s t) (h : ModeGovernsDrive s) : ModeGovernsDrive t := by
  have resumed : ∀ u : State, ModeGovernsDrive u → ModeGovernsDrive u.resume := fun u hu => by
    obtain ⟨same, modes | ⟨suspended, modes⟩⟩ := u.resume_mode <;> rw [same, modes]
    · exact hu
    · exact fun _ _ _ => .inl rfl
  cases m with
  | onset uvm ovt m _ mode =>
    rcases mode with ⟨_, rfl⟩ | ⟨_, rfl, stopped⟩
    · exact h
    · exact ModeGovernsDrive.of_stopped stopped
  | clearUvm => exact resumed _ (h.congr rfl rfl)
  | clearOvt => exact resumed _ (h.congr rfl rfl)
  | arm => exact fun _ _ _ => .inl rfl
  | standby _ released =>
    refine fun ch a running => .inr ⟨rfl, fun energize => ?_⟩
    rcases h ch a running with armed | ⟨_, held⟩
    · exact released ch a running armed energize
    · exact held energize
  | safe _ _ stopped => exact ModeGovernsDrive.of_stopped stopped
  | loadLock loading =>
    exact ModeGovernsDrive.of_stopped (h.stopped (by rw [loading]; nofun) (by rw [loading]; nofun))
  | _ => exact h

/-! ### nSAFE (R155) -/

/-- The level last seen and the mode, as R155 binds them. -/
def ModeControl.nsafeHolds (m : ModeControl) : Prop :=
  m.nsafeSeen = .asserted → (m.mode = .loading → m.nsafeRemembered = true) ∧ (m.mode ≠ .loading → m.mode = .safe)

theorem nsafeHolds_iff (s : State) : NsafeHolds s ↔ s.modes.nsafeHolds := Iff.rfl

/-- Where the part is neither LOADING nor SAFE, nSAFE was last seen deasserted, whatever mode is entered. -/
theorem ModeControl.nsafeHolds.enter {m : ModeControl} (h : m.nsafeHolds) (loaded : m.mode ≠ .loading) (away : m.mode ≠ .safe)
    (mode : PartMode) : ({ m with mode := mode } : ModeControl).nsafeHolds :=
  fun seen => absurd ((h seen).2 loaded) away

theorem NsafeHolds.partMove {s t : State} (m : PartMove s t) (h : NsafeHolds s) : NsafeHolds t := by
  have holds : s.modes.nsafeHolds := h
  have resumed : ∀ u : State, NsafeHolds u → NsafeHolds u.resume := fun u hu => by
    obtain ⟨same, modes | ⟨suspended, modes⟩⟩ := u.resume_mode <;> rw [same, modes]
    · exact hu
    · exact ModeControl.nsafeHolds.enter hu (by rw [suspended]; nofun) (by rw [suspended]; nofun) .armed
  cases m with
  | onset uvm ovt m _ mode =>
    rcases mode with ⟨_, rfl⟩ | ⟨armed, rfl, _⟩
    · exact h
    · exact holds.enter (by rw [armed]; nofun) (by rw [armed]; nofun) .suspended
  | clearUvm => exact resumed _ h
  | clearOvt => exact resumed _ h
  | arm standby => exact holds.enter (by rw [standby]; nofun) (by rw [standby]; nofun) .armed
  | standby loaded _ line =>
    intro seen
    rcases line with deasserted | away
    · exact absurd seen deasserted
    · exact holds.enter loaded away .standby seen
  | safe => exact fun _ => ⟨nofun, fun _ => rfl⟩
  | see level safe => exact fun seen => ⟨fun loading => absurd (safe seen) (by rw [show s.modes.mode = _ from loading]; nofun), fun _ => safe seen⟩
  | remember loading => exact fun _ => ⟨fun _ => rfl, fun away => absurd loading away⟩
  | loadLock loading =>
    intro seen
    have remembered := (h seen).1 loading
    rcases s.modeAfterLoading_cases with ⟨_, e⟩ | ⟨forgotten, _⟩ | ⟨forgotten, _⟩
    · have mode : s.loadLock.nextSlot.modes.mode = .safe := e
      rw [mode]; exact ⟨nofun, fun _ => rfl⟩
    · exact absurd (forgotten.symm.trans remembered) nofun
    · exact absurd (forgotten.symm.trans remembered) nofun
  | _ => exact h

/-! ### The conditions (R144, R158, R160 to R162) -/

theorem ConditionsGovern.congr {s t : State} (h : ConditionsGovern s) (modes : t.modes = s.modes)
    (monitor : t.monitor = s.monitor) (uvm : t.faults.uvm = s.faults.uvm) (ovt : t.faults.ovt = s.faults.ovt) :
    ConditionsGovern t := by
  unfold ConditionsGovern at *
  rw [modes, monitor, uvm, ovt]; exact h

/-- A part that is resumed where its conditions allow it, after one of them has cleared. -/
theorem ConditionsGovern.resume {s : State} (armed : s.modes.mode = .armed → s.monitor.uvm = false ∧ s.monitor.ovt = false)
    (uvm : s.monitor.uvm = true → s.faults.uvm = true) (ovt : s.monitor.ovt = true → s.faults.ovt = true) :
    ConditionsGovern s.resume := by
  rcases s.resume_cases with ⟨_, u, o, e⟩ | ⟨stays, e⟩ <;> rw [e]
  · exact ⟨fun _ => ⟨u, o⟩, nofun, uvm, ovt⟩
  · refine ⟨armed, fun suspended => ?_, uvm, ovt⟩
    by_cases u : s.monitor.uvm = true
    · exact .inl u
    · exact .inr (Bool.not_eq_false _ ▸ fun o => stays ⟨suspended, Bool.eq_false_iff.mpr u, o⟩)

theorem ConditionsGovern.partMove {s t : State} (m : PartMove s t) (h : ConditionsGovern s) : ConditionsGovern t := by
  obtain ⟨armed, suspended, uvm, ovt⟩ := h
  cases m with
  | onset u o m present mode =>
    refine ⟨fun e => ?_, fun e => ?_, fun e => ?_, fun e => ?_⟩
    · rcases mode with ⟨away, rfl⟩ | ⟨_, rfl, _⟩
      · exact absurd e away
      · cases e
    · simp only [Bool.or_eq_true]
      exact present.imp .inr .inr
    · simp only [Bool.or_eq_true] at e ⊢
      exact e.imp uvm id
    · simp only [Bool.or_eq_true] at e ⊢
      exact e.imp ovt id
  | clearUvm =>
    exact ConditionsGovern.resume (s := { s with monitor := { s.monitor with uvm := false } }) (fun e => ⟨rfl, (armed e).2⟩) nofun ovt
  | clearOvt =>
    exact ConditionsGovern.resume (s := { s with monitor := { s.monitor with ovt := false } }) (fun e => ⟨(armed e).1, rfl⟩) uvm nofun
  | clearFlags =>
    exact ⟨armed, suspended, fun e => Bool.and_eq_true_iff.mpr ⟨uvm e, e⟩, fun e => Bool.and_eq_true_iff.mpr ⟨ovt e, e⟩⟩
  | arm _ u o => exact ⟨fun _ => ⟨u, o⟩, nofun, uvm, ovt⟩
  | standby => exact ⟨nofun, nofun, uvm, ovt⟩
  | safe => exact ⟨nofun, nofun, uvm, ovt⟩
  | loadLock loading =>
    obtain ⟨locked, e⟩ := s.loadLock_eq
    rw [e]
    rcases s.modeAfterLoading_cases with ⟨_, m⟩ | ⟨_, m⟩ | ⟨_, u, o, m⟩ <;> rw [m]
    · exact ⟨nofun, nofun, uvm, ovt⟩
    · exact ⟨nofun, nofun, uvm, ovt⟩
    · exact ⟨fun _ => ⟨u, o⟩, nofun, uvm, ovt⟩
  | _ => exact ⟨armed, suspended, uvm, ovt⟩

/-- Settles O53, move by move. -/
theorem everyStepKeepsTheModeRules : Obligations.EveryStepKeepsTheModeRules := by
  refine ⟨fun s t hs h => step_keeps (P := ModeGovernsDrive) (fun _ _ h => h) (fun s t m h => ?_) (fun s t m h => ?_) hs h,
    fun s t hs h => step_keeps (P := NsafeHolds) (fun _ _ h => h) (fun s t m h => ?_) (fun s t m h => ?_) hs h,
    fun s t hs h => step_keeps (P := ConditionsGovern) (fun _ _ h => h) (fun s t m h => ?_) (fun s t m h => ?_) hs h⟩
  · rw [m.rest]; exact h
  · cases m with
    | table m => rw [m.frame]; exact h
    | channel ch m => exact h.channelMove m
    | part m => exact h.partMove m
    | fullReset =>
      exact ModeGovernsDrive.of_stopped fun ch => by
        simp [State.toFullReset, State.fullReset, State.channel, Vector.get_eq_getElem, Channel.reset]
  · rw [m.rest]; exact h
  · cases m with
    | table m => rw [m.frame]; exact h
    | channel ch m =>
      obtain ⟨_, _, _, modes, _⟩ := m.rest
      rw [nsafeHolds_iff, modes]; exact h
    | part m => exact NsafeHolds.partMove m h
    | fullReset => exact nofun
  · rw [m.rest]; exact h
  · cases m with
    | table m => rw [m.frame]; exact h
    | channel ch m =>
      obtain ⟨_, _, monitor, modes, _, _, _, uvm, ovt⟩ := m.rest
      exact ConditionsGovern.congr h modes monitor uvm ovt
    | part m => exact ConditionsGovern.partMove m h
    | fullReset => exact ⟨nofun, nofun, nofun, nofun⟩

end Sys2Proof.Machine
end


section
/-! What every step keeps of the counts of bindings and engagements (R4, R6, R7, R8, R17). -/

namespace Sys2Proof.Machine

/-! ### Counts over the channels -/

/-- The number of channels with a property. -/
def channelCount (f : ChannelId → Bool) : Nat := (allChannels.filter f).length

theorem channelCount_eq_sum (f : ChannelId → Bool) : channelCount f = (allChannels.map fun c => (f c).toNat).sum := by
  unfold channelCount
  induction allChannels with
  | nil => rfl
  | cons c l ih => cases h : f c <;> simp [h, ih]; omega

theorem channelCount_congr {f g : ChannelId → Bool} (h : ∀ c, g c = f c) : channelCount g = channelCount f := by
  rw [funext h]

/-- One channel gains or loses the property. -/
theorem channelCount_update {f g : ChannelId → Bool} (ch : ChannelId) (h : ∀ c, c ≠ ch → g c = f c) :
    channelCount g + (f ch).toNat = channelCount f + (g ch).toNat := by
  rw [channelCount_eq_sum, channelCount_eq_sum]
  exact sum_map_update allChannels nodup_allChannels ch (mem_allChannels ch) (fun c => (f c).toNat) (fun c => (g c).toNat)
    fun c hc => by rw [h c hc]

theorem channelCount_pos_iff (f : ChannelId → Bool) : 0 < channelCount f ↔ ∃ c, f c = true := by
  rw [channelCount, List.length_pos_iff_exists_mem]
  simp [mem_allChannels]

/-! ### The accounts of a profile and of a channel -/

/-- The profile and the generation that a channel's actuation is engaged to. -/
def Channel.engagement (c : Channel) : Option (ProfileId × Nat) := c.running.map fun a => (a.profile, a.gen)

/-- A profile holds a version with a generation. -/
def Profile.holds (e : Profile) (gen : Nat) : Prop :=
  (∃ v, e.live = some v ∧ v.gen = gen) ∨ ∃ v, e.draining = some v ∧ v.gen = gen

/-- A profile's counts are what is bound and engaged to it, and its versions stand in their order. -/
def Profile.accounted (e : Profile) (bound : Nat) (engaged : Nat → Nat) : Prop :=
  e.bindingCount = bound ∧ (∀ v, e.live = some v → v.engaged = engaged v.gen ∧ v.gen ≤ e.highWater) ∧
    ∀ v, e.draining = some v → v.engaged = engaged v.gen ∧ 0 < v.engaged ∧ ∃ w, e.live = some w ∧ v.gen < w.gen

/-- A channel is bound to a live profile, and engaged to a version of it. -/
def Channel.linked (c : Channel) (profile : ProfileId → Profile) : Prop :=
  (∀ p, c.binding = some p → (profile p).live.isSome = true) ∧
    ∀ p gen, c.engagement = some (p, gen) → c.binding = some p ∧ (profile p).holds gen

theorem State.boundTo_eq (s : State) (p : ProfileId) :
    s.boundTo p = channelCount fun c => decide ((s.channel c).binding = some p) := rfl

theorem State.engagedTo_eq (s : State) (p : ProfileId) (gen : Nat) :
    s.engagedTo p gen = channelCount fun c => decide ((s.channel c).engagement = some (p, gen)) := by
  refine channelCount_congr fun c => ?_
  unfold Channel.engagement
  cases (s.channel c).running with
  | none => rfl
  | some a => simp [Actuation.runsOn]

theorem tableAccounted_iff (s : State) :
    TableAccounted s ↔
      (∀ p, (s.profile p).accounted (s.boundTo p) (s.engagedTo p)) ∧ (∀ c, (s.channel c).linked s.profile) ∧
        (s.modes.mode = .loading → ∀ p : ProfileId, s.loader.loaded.get p = true → (s.profile p).live.isSome = true) := by
  constructor
  · rintro ⟨⟨counts, bound, loaded⟩, live, draining, running⟩
    refine ⟨fun p => ⟨counts p, live p, draining p⟩, fun c => ⟨bound c, fun p gen engaged => ?_⟩, loaded⟩
    obtain ⟨a, ha, same⟩ := Option.map_eq_some_iff.mp engaged
    obtain ⟨rfl, rfl⟩ := Prod.mk.inj same
    exact running c a ha
  · rintro ⟨accounted, linked, loaded⟩
    refine ⟨⟨fun p => (accounted p).1, fun c => (linked c).1, loaded⟩, fun p => (accounted p).2.1, fun p => (accounted p).2.2,
      fun c a ha => (linked c).2 a.profile a.gen ?_⟩
    simp [Channel.engagement, ha]

/-- A channel is bound to a profile whose count is not 0. -/
theorem State.boundTo_pos {s : State} {c : ChannelId} {p : ProfileId} (bound : (s.channel c).binding = some p) : 0 < s.boundTo p := by
  rw [s.boundTo_eq, channelCount_pos_iff]
  exact ⟨c, decide_eq_true bound⟩

theorem State.engagedTo_pos_iff (s : State) (p : ProfileId) (gen : Nat) :
    0 < s.engagedTo p gen ↔ ∃ c, (s.channel c).engagement = some (p, gen) := by
  simp [s.engagedTo_eq, channelCount_pos_iff]

/-! ### What does not reach the accounts -/

/-- The counts read the bindings and the engagements alone. -/
theorem State.counts_congr {s t : State} (binding : ∀ c, (t.channel c).binding = (s.channel c).binding)
    (engagement : ∀ c, (t.channel c).engagement = (s.channel c).engagement) :
    t.boundTo = s.boundTo ∧ t.engagedTo = s.engagedTo := by
  refine ⟨funext fun p => channelCount_congr fun c => by rw [binding], funext fun p => funext fun gen => ?_⟩
  rw [State.engagedTo_eq, State.engagedTo_eq]
  exact channelCount_congr fun c => by rw [engagement]

theorem TableAccounted.congr {s t : State} (h : TableAccounted s) (profile : t.profile = s.profile)
    (binding : ∀ c, (t.channel c).binding = (s.channel c).binding)
    (engagement : ∀ c, (t.channel c).engagement = (s.channel c).engagement)
    (loaded : t.modes.mode = .loading → s.modes.mode = .loading ∧ t.loader.loaded = s.loader.loaded) : TableAccounted t := by
  rw [tableAccounted_iff] at *
  obtain ⟨accounted, linked, live⟩ := h
  obtain ⟨bound, engaged⟩ := State.counts_congr binding engagement
  refine ⟨fun p => ?_, fun c => ?_, fun loading p hp => ?_⟩
  · rw [profile, bound, engaged]; exact accounted p
  · unfold Channel.linked
    rw [binding, engagement, profile]; exact linked c
  · obtain ⟨before, same⟩ := loaded loading
    rw [profile]; exact live before p (same ▸ hp)

/-! ### The moves of the table -/

/-- One profile changes, the channels as they were. -/
theorem TableAccounted.setProfile {s t : State} (h : TableAccounted s) (p : ProfileId) {e : Profile}
    (profiles : t.profiles = (s.setProfile p e).profiles) (channels : t.channels = s.channels) (modes : t.modes = s.modes)
    (accounted : e.accounted (s.boundTo p) (s.engagedTo p))
    (bound : ∀ c, (s.channel c).binding = some p → e.live.isSome = true)
    (engaged : ∀ c gen, (s.channel c).engagement = some (p, gen) → e.holds gen)
    (loaded : s.modes.mode = .loading → ∀ q, t.loader.loaded.get q = true → (t.profile q).live.isSome = true) :
    TableAccounted t := by
  rw [tableAccounted_iff] at *
  obtain ⟨before, linked, _⟩ := h
  have profile : ∀ q, t.profile q = if q = p then e else s.profile q := fun q => by
    rw [← s.profile_setProfile p q e]; unfold State.profile; rw [profiles]
  have channel : t.channel = s.channel := by unfold State.channel; rw [channels]
  obtain ⟨counts, engagements⟩ := State.counts_congr (s := s) (t := t) (by simp [channel]) (by simp [channel])
  refine ⟨fun q => ?_, fun c => ⟨fun q hq => ?_, fun q gen hq => ?_⟩, fun loading => loaded (modes ▸ loading)⟩
  · rw [profile, counts, engagements]
    split
    · next same => rw [same]; exact accounted
    · exact before q
  · rw [channel] at hq
    rw [profile]
    split
    · next same => exact bound c (same ▸ hq)
    · exact (linked c).1 q hq
  · rw [channel] at hq ⊢
    refine ⟨((linked c).2 q gen hq).1, ?_⟩
    rw [profile]
    split
    · next same => exact engaged c gen (same ▸ hq)
    · exact ((linked c).2 q gen hq).2

/-- A change of a profile's draft, run or withheld flag. -/
theorem TableAccounted.keep {s t : State} (h : TableAccounted s) (p : ProfileId) {e : Profile}
    (profiles : t.profiles = (s.setProfile p e).profiles) (channels : t.channels = s.channels) (modes : t.modes = s.modes)
    (loader : t.loader = s.loader) (count : e.bindingCount = (s.profile p).bindingCount) (live : e.live = (s.profile p).live)
    (draining : e.draining = (s.profile p).draining) (highWater : e.highWater = (s.profile p).highWater) : TableAccounted t := by
  have whole := h
  rw [tableAccounted_iff] at h
  obtain ⟨accounted, linked, loaded⟩ := h
  refine whole.setProfile p profiles channels modes ?_ (fun c hc => ?_) (fun c gen hc => ?_) fun loading q hq => ?_
  · unfold Profile.accounted
    rw [count, live, draining, highWater]; exact accounted p
  · rw [live]; exact (linked c).1 p hc
  · unfold Profile.holds
    rw [live, draining]; exact ((linked c).2 p gen hc).2
  · have profile : t.profile q = if q = p then e else s.profile q := by
      rw [← s.profile_setProfile p q e]; unfold State.profile; rw [profiles]
    have before := loaded loading q (loader ▸ hq)
    rw [profile]
    split
    · next same => rw [live, ← same]; exact before
    · exact before

/-- No channel is bound to a profile whose count is 0. -/
theorem State.not_bound_of_count {s : State} {p : ProfileId} (count : s.boundTo p = 0) (c : ChannelId) :
    (s.channel c).binding ≠ some p := fun bound => by
  have := State.boundTo_pos bound
  omega

/-- A profile whose versions' generations are at most a mark has no engagement above it. -/
theorem State.engagedTo_eq_zero {s : State} {p : ProfileId} {gen : Nat}
    (none : ∀ c, (s.channel c).engagement ≠ some (p, gen)) : s.engagedTo p gen = 0 := by
  by_contra positive
  obtain ⟨c, hc⟩ := (s.engagedTo_pos_iff p gen).mp (Nat.pos_of_ne_zero positive)
  exact none c hc

/-- The new live version has no engagement, and the one it displaces drains where it has some (R14, R15). -/
theorem TableAccounted.makeLive {s : State} (h : TableAccounted s) {p : ProfileId} {d : Shape}
    (drained : (s.profile p).draining = none) : TableAccounted (s.makeLive p d) := by
  have whole := h
  rw [tableAccounted_iff] at h
  obtain ⟨accounted, linked, loaded⟩ := h
  obtain ⟨count, live, _⟩ := accounted p
  -- an engagement is to the version that was live
  have engaged : ∀ c gen, (s.channel c).engagement = some (p, gen) →
      ∃ v, (s.profile p).live = some v ∧ v.gen = gen ∧ 0 < v.engaged := fun c gen hc => by
    rcases ((linked c).2 p gen hc).2 with ⟨v, hv, same⟩ | ⟨v, hv, _⟩
    · refine ⟨v, hv, same, ?_⟩
      rw [(live v hv).1, same]
      exact (s.engagedTo_pos_iff p gen).mpr ⟨c, hc⟩
    · exact absurd (drained.symm.trans hv) nofun
  refine whole.setProfile p (e := (s.profile p).committed d) rfl rfl rfl ⟨count, fun v hv => ?_, fun v hv => ?_⟩ (fun _ _ => rfl)
    (fun c gen hc => .inr ?_) fun loading q hq => ?_
  · cases hv
    refine ⟨(State.engagedTo_eq_zero fun c hc => ?_).symm, Nat.le_refl _⟩
    obtain ⟨v, hv, same, _⟩ := engaged c _ hc
    exact absurd (live v hv).2 (by rw [same]; exact Nat.not_succ_le_self _)
  · simp only [Profile.committed, displaced] at hv
    split at hv
    · cases hv
    · next w hw =>
      split at hv
      · cases hv
      · next some_ =>
        obtain rfl := Option.some.inj hv
        obtain ⟨same, below⟩ := live w hw
        exact ⟨same, Nat.pos_of_ne_zero some_, _, rfl, Nat.lt_succ_of_le below⟩
  · obtain ⟨v, hv, same, positive⟩ := engaged c gen hc
    refine ⟨v, ?_, same⟩
    simp only [Profile.committed, displaced, hv, if_neg (Nat.pos_iff_ne_zero.mp positive)]
  · have before := loaded loading q hq
    simp only [State.makeLive, State.freeEntries_profile, State.profile_setProfile]
    split
    · rfl
    · exact before

/-- A profile without a binding has no engagement, and so no version that drains (R18). -/
theorem TableAccounted.retire {s : State} (h : TableAccounted s) {p : ProfileId} (loaded : s.modes.mode ≠ .loading)
    (unbound : (s.profile p).bindingCount = 0) : TableAccounted (s.retireProfile p) := by
  have whole := h
  rw [tableAccounted_iff] at h
  obtain ⟨accounted, linked, _⟩ := h
  obtain ⟨count, _, draining⟩ := accounted p
  have free := fun c => State.not_bound_of_count (count.symm.trans unbound) c
  have idle : ∀ c gen, (s.channel c).engagement ≠ some (p, gen) := fun c gen hc => free c ((linked c).2 p gen hc).1
  refine whole.setProfile p (e := { (s.profile p).cleared with live := none, draft := none }) rfl rfl rfl
    ⟨count, nofun, fun v hv => ?_⟩ (fun c hc => absurd hc (free c)) (fun c gen hc => absurd hc (idle c gen))
    fun loading => absurd loading loaded
  obtain ⟨same, positive, _⟩ := draining v hv
  rw [same, State.engagedTo_eq_zero (fun c => idle c v.gen)] at positive
  exact absurd positive (Nat.lt_irrefl 0)

theorem Channel.engagement_of_idle {c : Channel} (idle : c.running = none) : c.engagement = none := by
  simp [Channel.engagement, idle]

/-- The load fills a profile while no channel drives (R22, R97). -/
theorem TableAccounted.fill {s : State} (h : TableAccounted s) (p : ProfileId) (gen : Nat) (sh : Shape)
    (idle : ∀ c, (s.channel c).running = none) : TableAccounted (s.fill p gen sh) := by
  have whole := h
  rw [tableAccounted_iff] at h
  obtain ⟨accounted, linked, loaded⟩ := h
  obtain ⟨count, _, draining⟩ := accounted p
  have none_engaged : ∀ c q g, (s.channel c).engagement ≠ some (q, g) := fun c q g => by
    rw [Channel.engagement_of_idle (idle c)]; nofun
  unfold State.fill
  split
  · exact whole
  · refine whole.setProfile p (e := (s.profile p).filled gen sh) rfl rfl rfl
      ⟨count, fun v hv => ?_, fun v hv => ?_⟩ (fun _ _ => rfl) (fun c g hc => absurd hc (none_engaged c p g))
      fun loading q hq => ?_
    · cases hv
      exact ⟨(State.engagedTo_eq_zero fun c => none_engaged c p gen).symm, Nat.le_refl _⟩
    · obtain ⟨same, positive, _⟩ := draining v hv
      rw [same, State.engagedTo_eq_zero fun c => none_engaged c p v.gen] at positive
      exact absurd positive (Nat.lt_irrefl 0)
    · show ((s.setProfile p _).profile q).live.isSome = true
      rw [State.profile_setProfile]
      split
      · rfl
      · next other =>
        refine loaded loading q ?_
        have here : (s.loader.loaded.set p.val true p.isLt).get q = true := hq
        rwa [vector_get_set, if_neg other] at here

theorem TableAccounted.tableMove {s t : State} (m : TableMove s t) (h : TableAccounted s) (drive : ModeGovernsDrive s) :
    TableAccounted t := by
  cases m with
  | openEmpty p | openCopy p | clear p | rewrite p | insert p | delete p => exact h.keep p rfl rfl rfl rfl rfl rfl rfl rfl
  | discard p =>
    have same : ∀ e : Profile, e.clearIfAbsent.bindingCount = e.bindingCount ∧ e.clearIfAbsent.live = e.live ∧
        e.clearIfAbsent.draining = e.draining ∧ e.clearIfAbsent.highWater = e.highWater := fun e => by
      unfold Profile.clearIfAbsent
      split <;> exact ⟨rfl, rfl, rfl, rfl⟩
    obtain ⟨count, live, draining, highWater⟩ := same { s.profile p with draft := none }
    exact h.keep p rfl rfl rfl rfl count live draining highWater
  | makeLive p d _ drained => exact h.makeLive drained
  | retire p loaded unbound => exact h.retire loaded unbound
  | fill p gen sh loading => exact h.fill p gen sh (drive.stopped (by rw [loading]; nofun) (by rw [loading]; nofun))

/-! ### The moves of a channel -/

/-- What a channel's record changes beside its binding and its engagement. -/
theorem TableAccounted.keepRecord {s t : State} (h : TableAccounted s) (ch : ChannelId) (profiles : t.profiles = s.profiles)
    (others : ∀ c, c ≠ ch → t.channel c = s.channel c) (binding : (t.channel ch).binding = (s.channel ch).binding)
    (engagement : (t.channel ch).engagement = (s.channel ch).engagement) (modes : t.modes = s.modes) (loader : t.loader = s.loader) :
    TableAccounted t := by
  refine h.congr (by unfold State.profile; rw [profiles]) (fun c => ?_) (fun c => ?_) (by rw [modes, loader]; exact fun e => ⟨e, rfl⟩)
  · by_cases same : c = ch
    · rw [same]; exact binding
    · rw [others c same]
  · by_cases same : c = ch
    · rw [same]; exact engagement
    · rw [others c same]

section

variable {s t : State} {ch : ChannelId} {p : ProfileId} (channels : ∀ c, c ≠ ch → t.channel c = s.channel c)

include channels

theorem State.boundTo_update :
    t.boundTo p + (decide ((s.channel ch).binding = some p)).toNat = s.boundTo p + (decide ((t.channel ch).binding = some p)).toNat := by
  rw [State.boundTo_eq, State.boundTo_eq]
  exact channelCount_update (f := fun c => decide ((s.channel c).binding = some p))
    (g := fun c => decide ((t.channel c).binding = some p)) ch fun c hc => by rw [channels c hc]

theorem State.engagedTo_update (gen : Nat) :
    t.engagedTo p gen + (decide ((s.channel ch).engagement = some (p, gen))).toNat =
      s.engagedTo p gen + (decide ((t.channel ch).engagement = some (p, gen))).toNat := by
  rw [State.engagedTo_eq, State.engagedTo_eq]
  exact channelCount_update (f := fun c => decide ((s.channel c).engagement = some (p, gen)))
    (g := fun c => decide ((t.channel c).engagement = some (p, gen))) ch fun c hc => by rw [channels c hc]

/-- One channel and one profile move together. -/
theorem TableAccounted.move (h : TableAccounted s) (profiles : ∀ q, q ≠ p → t.profile q = s.profile q)
    (binding : ∀ q, q ≠ p → ((t.channel ch).binding = some q ↔ (s.channel ch).binding = some q))
    (engagement : ∀ q gen, q ≠ p → ((t.channel ch).engagement = some (q, gen) ↔ (s.channel ch).engagement = some (q, gen)))
    (modes : t.modes = s.modes) (loader : t.loader = s.loader)
    (accounted : (t.profile p).accounted (t.boundTo p) (t.engagedTo p))
    (live : (s.profile p).live.isSome = true → (t.profile p).live.isSome = true)
    (holds : ∀ c gen, c ≠ ch → (s.channel c).engagement = some (p, gen) → (t.profile p).holds gen)
    (own : (t.channel ch).linked t.profile) : TableAccounted t := by
  rw [tableAccounted_iff] at *
  obtain ⟨before, linked, loaded⟩ := h
  have lives : ∀ q, (s.profile q).live.isSome = true → (t.profile q).live.isSome = true := fun q hq => by
    by_cases same : q = p
    · rw [same] at hq ⊢; exact live hq
    · rw [profiles q same]; exact hq
  refine ⟨fun q => ?_, fun c => ?_, fun loading q hq => lives q (loaded (modes ▸ loading) q (loader ▸ hq))⟩
  · by_cases same : q = p
    · rw [same]; exact accounted
    · have bound : t.boundTo q = s.boundTo q := by
        have := State.boundTo_update (p := q) channels
        simp only [binding q same] at this
        omega
      have engaged : t.engagedTo q = s.engagedTo q := funext fun gen => by
        have := State.engagedTo_update (p := q) channels gen
        simp only [engagement q gen same] at this
        omega
      rw [profiles q same, bound, engaged]; exact before q
  · by_cases same : c = ch
    · rw [same]; exact own
    · rw [channels c same]
      refine ⟨fun q hq => lives q ((linked c).1 q hq), fun q gen hq => ⟨((linked c).2 q gen hq).1, ?_⟩⟩
      by_cases here : q = p
      · rw [here] at hq ⊢; exact holds c gen same hq
      · rw [profiles q here]; exact ((linked c).2 q gen hq).2

end

/-- A channel without an actuation loses its binding. -/
theorem TableAccounted.removeBinding {s : State} (h : TableAccounted s) {ch : ChannelId} (idle : (s.channel ch).running = none) :
    TableAccounted (s.removeBinding ch) := by
  have record := s.removeBinding_channel_same ch
  have others : ∀ c, c ≠ ch → (s.removeBinding ch).channel c = s.channel c := (ChannelOnly.removeBinding s ch).channel
  have free : (s.channel ch).engagement = none := Channel.engagement_of_idle idle
  have free' : ((s.removeBinding ch).channel ch).engagement = none := by rw [record]; exact free
  cases bound : (s.channel ch).binding with
  | none => rw [State.removeBinding, bound]; exact h
  | some p =>
    have whole := h
    rw [tableAccounted_iff] at h
    obtain ⟨accounted, linked, _⟩ := h
    obtain ⟨count, live, draining⟩ := accounted p
    have profile : ∀ q, (s.removeBinding ch).profile q =
        { s.profile q with
          bindingCount := if some p = some q then (s.profile q).bindingCount - 1 else (s.profile q).bindingCount } := fun q => by
      rw [s.removeBinding_profile ch q, bound]
    have counts := State.boundTo_update (p := p) others
    have engaged : (s.removeBinding ch).engagedTo p = s.engagedTo p := funext fun gen => by
      have := State.engagedTo_update (p := p) others gen
      simpa [free, free'] using this
    refine whole.move (p := p) others (fun q hq => ?_) (fun q hq => ?_) (fun q gen _ => by rw [free, free'])
      (by rw [s.removeBinding_frame ch]) (by rw [s.removeBinding_frame ch]) ?_ (by simp [profile]) (fun c gen _ hc => ?_) ?_
    · rw [profile, if_neg (by simpa using fun e : p = q => hq e.symm)]
    · rw [record, bound]; simpa using fun e : p = q => hq e.symm
    · rw [engaged, profile]
      refine ⟨?_, live, draining⟩
      simp only [record, bound, count] at counts ⊢
      simp at counts
      simp only [if_true]
      omega
    · rw [profile]; exact ((linked c).2 p gen hc).2
    · rw [record]
      exact ⟨nofun, fun q gen hq => absurd (free.symm.trans hq) nofun⟩

/-- An unbound channel without an actuation is bound to a live profile. -/
theorem TableAccounted.countBinding {s : State} (h : TableAccounted s) {ch : ChannelId} {p : ProfileId}
    (idle : (s.channel ch).running = none) (unbound : (s.channel ch).binding = none) (live : (s.profile p).live.isSome = true) :
    TableAccounted ((s.countBinding p).setChannel ch { s.channel ch with binding := some p }) := by
  have others : ∀ c, c ≠ ch → ((s.countBinding p).setChannel ch { s.channel ch with binding := some p }).channel c = s.channel c :=
    fun c hc => by rw [State.channel_setChannel, if_neg hc]; rfl
  have free : (s.channel ch).engagement = none := Channel.engagement_of_idle idle
  have whole := h
  rw [tableAccounted_iff] at h
  obtain ⟨accounted, linked, _⟩ := h
  obtain ⟨count, lives, draining⟩ := accounted p
  have counts := State.boundTo_update (p := p) others
  have engaged : ((s.countBinding p).setChannel ch { s.channel ch with binding := some p }).engagedTo p = s.engagedTo p :=
    funext fun gen => by
      have := State.engagedTo_update (p := p) others gen
      simpa [Channel.engagement, idle] using this
  have profile : ∀ q, ((s.countBinding p).setChannel ch { s.channel ch with binding := some p }).profile q =
      if q = p then { s.profile p with bindingCount := (s.profile p).bindingCount + 1 } else s.profile q :=
    fun q => s.profile_setProfile p q _
  refine whole.move (p := p) others (fun q hq => by rw [profile, if_neg hq]) (fun q hq => ?_) (fun q gen _ => by simp [Channel.engagement])
    rfl rfl ?_ (fun _ => by rw [profile, if_pos rfl]; exact live) (fun c gen _ hc => ?_) ?_
  · have other : ¬ p = q := fun e => hq e.symm
    simp [unbound, other]
  · rw [engaged, profile, if_pos rfl]
    refine ⟨?_, lives, draining⟩
    simp [unbound] at counts
    simp only [count, counts]
  · rw [profile, if_pos rfl]; exact ((linked c).2 p gen hc).2
  · rw [State.channel_setChannel_same]
    refine ⟨fun q hq => ?_, fun q gen hq => absurd (free.symm.trans hq) nofun⟩
    obtain rfl := Option.some.inj hq
    rw [profile, if_pos rfl]; exact live

theorem TableAccounted.bindTo {s : State} (h : TableAccounted s) {ch : ChannelId} {p : ProfileId}
    (idle : (s.channel ch).running = none) (live : (s.profile p).live.isSome = true) : TableAccounted (s.bindTo ch p) := by
  unfold State.bindTo
  split
  · exact h
  · refine (h.removeBinding idle).countBinding ?_ ?_ ?_
    · rw [s.removeBinding_running ch]; exact idle
    · exact s.removeBinding_binding ch
    · rw [s.removeBinding_profile ch]; exact live

/-- A start engages the live version (R7, R78). -/
theorem TableAccounted.started {s : State} (h : TableAccounted s) {ch : ChannelId} {p : ProfileId} {v : Version} (o : Origin)
    (idle : (s.channel ch).running = none) (bound : (s.channel ch).binding = some p) (live : (s.profile p).live = some v) :
    TableAccounted (s.started ch o p v) := by
  have whole := h
  rw [tableAccounted_iff] at h
  obtain ⟨accounted, linked, _⟩ := h
  obtain ⟨count, lives, draining⟩ := accounted p
  have free : (s.channel ch).engagement = none := Channel.engagement_of_idle idle
  have others : ∀ c, c ≠ ch → (s.started ch o p v).channel c = s.channel c := fun c hc => by
    simp only [State.started, State.setChFault_channel, State.setDiag_channel, State.channel_setChannel, if_neg hc,
      State.setProfile_channel]
  have binding : ((s.started ch o p v).channel ch).binding = some p := by simp [State.started, bound]
  have engagement : ((s.started ch o p v).channel ch).engagement = some (p, v.gen) := by
    simp [State.started, Channel.engagement]
  have profile : ∀ q, (s.started ch o p v).profile q =
      if q = p then { s.profile p with live := some { v with engaged := v.engaged + 1 } } else s.profile q :=
    fun q => s.profile_setProfile p q _
  have counts := State.boundTo_update (p := p) others
  have engaged : ∀ gen, (s.started ch o p v).engagedTo p gen = s.engagedTo p gen + (decide (v.gen = gen)).toNat := fun gen => by
    have := State.engagedTo_update (p := p) others gen
    simpa [free, engagement] using this
  obtain ⟨exact_, below⟩ := lives v live
  refine whole.move (p := p) others (fun q hq => by rw [profile, if_neg hq]) (fun q hq => by rw [binding, bound]) (fun q gen hq => ?_)
    rfl rfl ?_ (fun _ => by rw [profile, if_pos rfl]; rfl) (fun c gen _ hc => ?_) ?_
  · have other : ¬ p = q := fun e => hq e.symm
    rw [engagement, free]
    simp [other]
  · rw [profile, if_pos rfl]
    refine ⟨?_, fun w hw => ?_, fun w hw => ?_⟩
    · simp only [binding, bound] at counts
      exact count.trans (by omega)
    · obtain rfl := Option.some.inj hw
      exact ⟨by simp [engaged, exact_], below⟩
    · obtain ⟨same, positive, x, hx, lt⟩ := draining w hw
      obtain rfl := Option.some.inj (live.symm.trans hx)
      have other : v.gen ≠ w.gen := by omega
      exact ⟨by simp [engaged, other, same], positive, _, rfl, lt⟩
  · rw [profile, if_pos rfl]
    rcases ((linked c).2 p gen hc).2 with ⟨w, hw, same⟩ | draining
    · obtain rfl := Option.some.inj (live.symm.trans hw)
      exact .inl ⟨_, rfl, same⟩
    · exact .inr draining
  · refine ⟨fun q hq => ?_, fun q gen hq => ?_⟩
    · obtain rfl := Option.some.inj (binding.symm.trans hq)
      rw [profile, if_pos rfl]; rfl
    · obtain ⟨rfl, rfl⟩ := Prod.mk.inj (Option.some.inj (engagement.symm.trans hq))
      exact ⟨binding, .inl ⟨{ v with engaged := v.engaged + 1 }, by rw [profile, if_pos rfl], rfl⟩⟩

/-- What a lost engagement makes of a profile that holds the version: the live version's count one lower, or the draining version's, which
goes with its last. -/
def Profile.Disengaged (e f : Profile) (gen : Nat) : Prop :=
  f.bindingCount = e.bindingCount ∧ f.highWater = e.highWater ∧
    ((∃ v, e.live = some v ∧ v.gen = gen ∧ f.live = some { v with engaged := v.engaged - 1 } ∧ f.draining = e.draining) ∨
      (∃ v, e.draining = some v ∧ v.gen = gen ∧ f.live = e.live ∧
        f.draining = if v.engaged ≤ 1 then none else some { v with engaged := v.engaged - 1 }))

theorem State.disengage_disengaged {s : State} {p : ProfileId} {gen : Nat} (holds : (s.profile p).holds gen) (verdict : Verdict) :
    (s.profile p).Disengaged ((s.disengage p gen verdict).profile p) gen := by
  rcases s.disengage_eq p gen verdict with ⟨v, live, same, _, e⟩ | ⟨v, draining, same, _, e⟩ | ⟨kind, other, _⟩
  · obtain ⟨hlive, _, hdraining, hmark, hcount⟩ := Profile.count_frame
      ({ s.profile p with live := some { v with engaged := v.engaged - 1 } } : Profile) verdict
    rw [e, State.profile_setProfile_same]
    exact ⟨hcount, hmark, .inl ⟨v, live, same, hlive, hdraining⟩⟩
  · rw [e]
    rcases s.loseDraining_eq p v with ⟨last, e⟩ | ⟨more, e⟩ <;> rw [e]
    · simp only [State.freeEntries_profile, State.profile_setProfile_same]
      exact ⟨rfl, rfl, .inr ⟨v, draining, same, rfl, by rw [if_pos last]⟩⟩
    · rw [State.profile_setProfile_same]
      exact ⟨rfl, rfl, .inr ⟨v, draining, same, rfl, by rw [if_neg (by omega)]⟩⟩
  · rcases holds with ⟨v, live, same⟩ | ⟨v, draining, same⟩
    · exact absurd (kind.symm.trans ((s.kindOf_eq_live_iff p gen).mpr ⟨v, live, same⟩)) nofun
    · exact absurd same (other v draining)

section

variable {e f : Profile} {gen bound : Nat} {engaged left : Nat → Nat} (h : e.accounted bound engaged) (d : e.Disengaged f gen)
  (counts : ∀ g, left g + (decide (gen = g)).toNat = engaged g)

include h d counts

/-- The counts of a profile with one engagement less. -/
theorem Profile.accounted.disengaged : f.accounted bound left := by
  obtain ⟨count, lives, draining⟩ := h
  obtain ⟨hcount, hmark, ⟨v, live, same, hlive, hdraining⟩ | ⟨v, drain, same, hlive, hdraining⟩⟩ := d
  · obtain ⟨exact_, below⟩ := lives v live
    have here := counts v.gen
    simp only [same, decide_true, Bool.toNat_true] at here
    refine ⟨hcount.trans count, fun w hw => ?_, fun w hw => ?_⟩
    · obtain rfl := Option.some.inj (hlive.symm.trans hw)
      exact ⟨by rw [same] at exact_; show v.engaged - 1 = left v.gen; rw [same]; omega, hmark ▸ below⟩
    · obtain ⟨exact_, positive, x, hx, lt⟩ := draining w (hdraining ▸ hw)
      obtain rfl := Option.some.inj (live.symm.trans hx)
      have there := counts w.gen
      rw [decide_eq_false (by omega)] at there
      exact ⟨by rw [exact_, ← there]; rfl, positive, _, hlive, lt⟩
  · obtain ⟨exact_, positive, x, hx, lt⟩ := draining v drain
    have here := counts v.gen
    simp only [same, decide_true, Bool.toNat_true] at here
    refine ⟨hcount.trans count, fun w hw => ?_, fun w hw => ?_⟩
    · obtain ⟨exact_, below⟩ := lives w (hlive ▸ hw)
      obtain rfl := Option.some.inj (hx.symm.trans (hlive ▸ hw))
      have there := counts x.gen
      rw [decide_eq_false (by omega)] at there
      exact ⟨by rw [exact_, ← there]; rfl, hmark ▸ below⟩
    · rw [hdraining] at hw
      split at hw
      · cases hw
      · obtain rfl := Option.some.inj hw
        exact ⟨by rw [same] at exact_; show v.engaged - 1 = left v.gen; rw [same]; omega, by show 0 < v.engaged - 1; omega,
          x, hlive ▸ hx, lt⟩

/-- A version that another channel is engaged to stays. -/
theorem Profile.holds_disengaged {g : Nat} (holds : e.holds g) (positive : 0 < left g) : f.holds g := by
  obtain ⟨_, _, draining⟩ := h
  obtain ⟨_, _, ⟨v, live, _, hlive, hdraining⟩ | ⟨v, drain, same, hlive, hdraining⟩⟩ := d
  · rcases holds with ⟨w, hw, here⟩ | ⟨w, hw, here⟩
    · obtain rfl := Option.some.inj (live.symm.trans hw)
      exact .inl ⟨_, hlive, here⟩
    · exact .inr ⟨w, hdraining ▸ hw, here⟩
  · rcases holds with ⟨w, hw, here⟩ | ⟨w, hw, here⟩
    · exact .inl ⟨w, hlive ▸ hw, here⟩
    · obtain rfl := Option.some.inj (drain.symm.trans hw)
      obtain ⟨exact_, _⟩ := draining v drain
      have left_ := counts g
      rw [← same, here, decide_eq_true rfl, Bool.toNat_true] at left_
      rw [here] at exact_
      exact .inr ⟨{ v with engaged := v.engaged - 1 }, by rw [hdraining, if_neg (by omega)], here⟩

end

/-- A channel that ends loses its engagement with the version it was on (R8, R102). -/
theorem TableAccounted.disengaged {s : State} (h : TableAccounted s) {ch : ChannelId} {a : Actuation}
    (running : (s.channel ch).running = some a) (verdict : Verdict) {c : Channel} (ended : c.running = none)
    (binding : c.binding = (s.channel ch).binding) :
    TableAccounted ((s.disengage a.profile a.gen verdict).setChannel ch c) := by
  generalize ht : (s.disengage a.profile a.gen verdict).setChannel ch c = t
  have frame := s.disengage_frame a.profile a.gen verdict
  have channel : t.channel ch = c := by rw [← ht]; simp
  have others : ∀ d, d ≠ ch → t.channel d = s.channel d := fun d hd => by
    rw [← ht, State.channel_setChannel, if_neg hd, frame]; rfl
  have profile : ∀ q, t.profile q = (s.disengage a.profile a.gen verdict).profile q := fun q => by rw [← ht]; rfl
  have was : (s.channel ch).engagement = some (a.profile, a.gen) := by simp [Channel.engagement, running]
  have free : c.engagement = none := Channel.engagement_of_idle ended
  have counts : ∀ gen, t.engagedTo a.profile gen + (decide (a.gen = gen)).toNat = s.engagedTo a.profile gen := fun gen => by
    have := State.engagedTo_update (p := a.profile) others gen
    simpa [was, channel, free] using this
  have bound : t.boundTo a.profile = s.boundTo a.profile := by
    have := State.boundTo_update (p := a.profile) others
    simpa [channel, binding] using this
  have whole := h
  rw [tableAccounted_iff] at h
  obtain ⟨accounted, linked, _⟩ := h
  obtain ⟨bind, holds⟩ := (linked ch).2 a.profile a.gen was
  have moved : (s.profile a.profile).Disengaged (t.profile a.profile) a.gen := by
    rw [profile]; exact State.disengage_disengaged holds verdict
  have live : (t.profile a.profile).live.isSome = true := by
    have before := (linked ch).1 a.profile bind
    obtain ⟨_, _, ⟨v, _, _, e, _⟩ | ⟨v, _, _, e, _⟩⟩ := moved
    · rw [e]; rfl
    · rw [e]; exact before
  refine whole.move (p := a.profile) others (fun q hq => by rw [profile, s.disengage_profile_other _ _ hq])
    (fun q _ => by rw [channel, binding]) (fun q gen hq => ?_) (by rw [← ht, frame]; rfl) (by rw [← ht, frame]; rfl)
    (bound ▸ (accounted a.profile).disengaged moved counts) (fun _ => live) (fun d gen hd hc => ?_) ?_
  · have other : ¬ a.profile = q := fun e => hq e.symm
    rw [channel, free, was]
    simp [other]
  · refine Profile.holds_disengaged (accounted a.profile) moved counts ((linked d).2 a.profile gen hc).2 ?_
    exact (t.engagedTo_pos_iff a.profile gen).mpr ⟨d, by rw [others d hd]; exact hc⟩
  · rw [channel]
    refine ⟨fun q hq => ?_, fun q gen hq => absurd (free.symm.trans hq) nofun⟩
    obtain rfl := Option.some.inj (bind.symm.trans (binding.symm.trans hq))
    exact live

theorem TableAccounted.settleRecord {s : State} (h : TableAccounted s) {ch : ChannelId} (idle : (s.channel ch).running = none) :
    TableAccounted (s.settleRecord ch) := by
  have edge : ∀ u : State, TableAccounted u → TableAccounted (u.settleEdge ch) := fun u hu =>
    hu.keepRecord ch rfl (ChannelOnly.settleEdge u ch).channel (by simp [State.settleEdge])
      (by simp [State.settleEdge, Channel.engagement]) rfl rfl
  simp only [State.settleRecord]
  split
  · refine edge _ ((h.removeBinding idle).keepRecord ch rfl (ChannelOnly.setChannel _ ch _).channel ?_ ?_ rfl rfl)
    · rw [State.channel_setChannel_same]
    · rw [State.channel_setChannel_same]; rfl
  · exact edge s h

theorem TableAccounted.endActuation {s : State} (h : TableAccounted s) (ch : ChannelId) (cause : EndCause) :
    TableAccounted (s.endActuation ch cause) := by
  cases running : (s.channel ch).running with
  | none => rw [State.endActuation_of_not_running cause running]; exact h
  | some a =>
    rw [State.endActuation_eq running cause]
    generalize (s.endRecord ch a cause) = record
    have off : TableAccounted ((s.settleUnit ch).stageOff ch) := by
      rw [s.settleUnit_eq_setDiag ch]
      exact h.keepRecord ch rfl (fun _ _ => rfl) rfl rfl rfl rfl
    have same : ((s.settleUnit ch).stageOff ch).channel ch = s.channel ch := by rw [s.settleUnit_eq_setDiag ch]; rfl
    exact (off.disengaged (by rw [same]; exact running) record.verdict rfl (by rw [same])).settleRecord (by simp)

theorem TableAccounted.channelMove {ch : ChannelId} {s t : State} (m : ChannelMove ch s t) (h : TableAccounted s)
    (drive : ModeGovernsDrive s) : TableAccounted t := by
  have edge : ∀ u : State, TableAccounted u → TableAccounted (u.settleEdge ch) := fun u hu =>
    hu.keepRecord ch rfl (ChannelOnly.settleEdge u ch).channel (by simp [State.settleEdge])
      (by simp [State.settleEdge, Channel.engagement]) rfl rfl
  have record : ∀ (u : State) (c : Channel), TableAccounted u → c.binding = (u.channel ch).binding →
      c.engagement = (u.channel ch).engagement → TableAccounted (u.setChannel ch c) := fun u c hu hb he =>
    hu.keepRecord ch rfl (ChannelOnly.setChannel u ch c).channel (by simp [hb]) (by simp [he]) rfl rfl
  have fault : ∀ (u : State) f, TableAccounted u → TableAccounted (u.setChFault ch f) := fun u f hu =>
    hu.keepRecord ch rfl (fun _ _ => rfl) rfl rfl rfl rfl
  cases m with
  | unit | stage => exact h.keepRecord ch rfl (fun _ _ => rfl) rfl rfl rfl rfl
  | run a b running profile gen => exact record s _ h rfl (by simp [Channel.engagement, running, profile, gen])
  | finish cause => exact h.endActuation ch cause
  | record c binding _ running => exact record s c h binding (by simp [Channel.engagement, running])
  | edge armed => exact record s _ h rfl rfl
  | start _ o p gen started ready =>
    obtain ⟨v, bound, live, _, _, rfl⟩ := State.start_eq_started started
    simp only [State.ready, State.driving, Bool.and_eq_true, Bool.not_eq_true', Option.isSome_eq_false_iff,
      Option.isNone_iff_eq_none] at ready
    exact h.started o ready.1.1 bound live
  | pull r => exact fault s _ h
  | latch => exact record _ _ (fault s _ h) rfl rfl
  | trip => exact (fault s _ h).endActuation ch .overcurrent
  | clear =>
    simp only [State.clearLatches]
    split
    · exact h
    · split
      · exact fault s _ h
      · exact edge _ (fault _ _ (fault s _ h))
  | soft => exact edge _ (h.keepRecord ch rfl (fun _ _ => rfl) rfl rfl rfl rfl)
  | bind p allowed =>
    rcases allowed with ⟨idle, live⟩ | ⟨loading, loaded⟩
    · exact edge _ (h.bindTo idle live)
    · have idle := drive.stopped (by rw [loading]; nofun) (by rw [loading]; nofun) ch
      exact edge _ (h.bindTo idle (((tableAccounted_iff s).mp h).2.2 loading p loaded))
  | rebind p idle live => exact h.bindTo idle live
  | unbindLater => exact record s _ h rfl rfl
  | unbind idle => exact record _ _ (h.removeBinding idle) rfl rfl
  | settings trigger check =>
    have set := record s { s.channel ch with trigger := trigger, openLoadCheck := check } h rfl rfl
    simp only [State.applySettings]
    split
    · exact set
    · exact fault _ _ set

/-- A part move reaches no profile and no channel; LOADING it only leaves. -/
theorem PartMove.loading {s t : State} (m : PartMove s t) (loading : t.modes.mode = .loading) :
    s.modes.mode = .loading ∧ t.loader.loaded = s.loader.loaded := by
  have resumed : ∀ u : State, u.resume.modes.mode = .loading → u.modes.mode = .loading ∧ u.resume.loader = u.loader := fun u hu => by
    obtain ⟨same, modes | ⟨_, modes⟩⟩ := u.resume_mode
    · exact ⟨modes ▸ hu, by rw [same]⟩
    · rw [modes] at hu; cases hu
  cases m with
  | onset uvm ovt m _ mode =>
    rcases mode with ⟨_, rfl⟩ | ⟨_, rfl, _⟩
    · exact ⟨loading, rfl⟩
    · cases loading
  | clearUvm =>
    obtain ⟨was, loader⟩ := resumed { s with monitor := { s.monitor with uvm := false } } loading
    exact ⟨was, congrArg Loader.loaded loader⟩
  | clearOvt =>
    obtain ⟨was, loader⟩ := resumed { s with monitor := { s.monitor with ovt := false } } loading
    exact ⟨was, congrArg Loader.loaded loader⟩
  | arm | standby | safe => cases loading
  | loadLock was => exact ⟨was, rfl⟩
  | _ => exact ⟨loading, rfl⟩

theorem TableAccounted.fullReset (s : State) : TableAccounted s.toFullReset := by
  have idle : ∀ c, s.toFullReset.channel c = Channel.reset := fun c => by
    simp [State.toFullReset, State.fullReset, State.channel, Vector.get_eq_getElem]
  rw [tableAccounted_iff]
  refine ⟨fun p => ?_, fun c => ?_, fun _ p hp => ?_⟩
  · have unbound : s.toFullReset.boundTo p = 0 := by
      simp [State.boundTo, idle, Channel.reset]
    rw [s.profile_toFullReset, unbound]
    exact ⟨rfl, nofun, nofun⟩
  · rw [idle]; exact ⟨nofun, nofun⟩
  · simp [State.toFullReset, State.fullReset, Loader.reset, Vector.get_eq_getElem] at hp

/-- Settles O54, move by move, beside the rule that no channel drives in LOADING. -/
theorem everyStepKeepsTheTableCounted : Obligations.EveryStepKeepsTheTableCounted := by
  intro s t drive h run
  refine (step_keeps (P := fun s => ModeGovernsDrive s ∧ TableAccounted s) (fun _ _ h => h) (fun s t m h => ?_) (fun s t m h => ?_)
    ⟨drive, h⟩ run).2
  · rw [m.rest]; exact h
  · obtain ⟨drive, table⟩ := h
    cases m with
    | table m =>
      refine ⟨?_, table.tableMove m drive⟩
      rw [m.frame]; exact drive
    | channel ch m => exact ⟨drive.channelMove m, table.channelMove m drive⟩
    | part m =>
      obtain ⟨profiles, _, channels, _⟩ := m.drive
      have same : t.channel = s.channel := by unfold State.channel; rw [channels]
      exact ⟨drive.partMove m, table.congr (by unfold State.profile; rw [profiles]) (by simp [same]) (by simp [same]) m.loading⟩
    | fullReset =>
      refine ⟨ModeGovernsDrive.of_stopped fun ch => ?_, TableAccounted.fullReset s⟩
      simp [State.toFullReset, State.fullReset, State.channel, Vector.get_eq_getElem, Channel.reset]

end Sys2Proof.Machine
end


section
/-! The line of a ramp (R86). -/

namespace Sys2Proof.Machine

/-- An upward ramp adds the share of its rise that has passed, the fraction dropped. -/
theorem rampTarget_of_le {start level : Nat} (h : start ≤ level) (k n : Nat) :
    rampTarget start level k n = min 400 (start + (level - start) * k / n) := by
  obtain ⟨rise, rfl⟩ := Nat.exists_eq_add_of_le h
  have share : Int.tdiv ((((start + rise : Nat) : Int) - start) * k) n = ((rise * k / n : Nat) : Int) := by
    have line : (((start + rise : Nat) : Int) - start) * k = ((rise * k : Nat) : Int) := by push_cast; ring
    rw [line]; rfl
  rw [rampTarget, share, Nat.add_sub_cancel_left]
  have whole : ((start : Int) + ((rise * k / n : Nat) : Int)).toNat = start + rise * k / n := by
    generalize rise * k / n = share
    omega
  rw [whole]; rfl

/-- A downward ramp takes the share of its fall off, the fraction dropped toward zero. -/
theorem rampTarget_of_ge {start level : Nat} (h : level ≤ start) (k n : Nat) :
    rampTarget start level k n = min 400 (start - (start - level) * k / n) := by
  obtain ⟨fall, rfl⟩ := Nat.exists_eq_add_of_le h
  have share : Int.tdiv (((level : Int) - ((level + fall : Nat) : Int)) * k) n = -((fall * k / n : Nat) : Int) := by
    have line : ((level : Int) - ((level + fall : Nat) : Int)) * k = -((fall * k : Nat) : Int) := by push_cast; ring
    rw [line, Int.neg_tdiv]; rfl
  rw [rampTarget, share, Nat.add_sub_cancel_left]
  have whole : (((level + fall : Nat) : Int) + -((fall * k / n : Nat) : Int)).toNat = level + fall - fall * k / n := by
    generalize fall * k / n = share
    omega
  rw [whole]; rfl

/-- Up to the last period the share is at most the whole. -/
theorem mul_div_le_of_le {x k n : Nat} (h : k ≤ n) : x * k / n ≤ x :=
  Nat.div_le_of_le_mul (by rw [Nat.mul_comm]; exact Nat.mul_le_mul_right x h)

/-- Settles O33, from the two directions of the line. -/
theorem rampTargetsStayOnTheLine : Obligations.RampTargetsStayOnTheLine := by
  intro start level k n positive _ le
  have last : ∀ x : Nat, x * n / n = x := fun x => Nat.mul_div_cancel x positive
  rcases Nat.le_total start level with up | down
  · have share := mul_div_le_of_le (x := level - start) le
    have next : (level - start) * k / n ≤ (level - start) * (k + 1) / n :=
      Nat.div_le_div_right (Nat.mul_le_mul_left _ (Nat.le_succ k))
    simp only [rampTarget_of_le up, last]
    generalize (level - start) * k / n = rise at share next
    generalize (level - start) * (k + 1) / n = further at next
    refine ⟨by omega, by omega, by omega, by omega, by omega, fun down => ?_, by omega⟩
    obtain rfl : start = level := Nat.le_antisymm up down
    simp_all
  · have share := mul_div_le_of_le (x := start - level) le
    have level_start : start ≤ level → start = level := fun up => Nat.le_antisymm up down
    simp only [rampTarget_of_ge down, last]
    generalize hf : (start - level) * k / n = fall at share
    refine ⟨by omega, by omega, by omega, by omega, fun up h => ?_, fun _ => trivial, fun up _ => ?_⟩
    · obtain rfl := level_start up
      simp only [Nat.sub_self, Nat.zero_mul, Nat.zero_div] at hf ⊢
      omega
    · obtain rfl := level_start up
      simp only [Nat.sub_self, Nat.zero_mul, Nat.zero_div] at hf ⊢
      omega

end Sys2Proof.Machine
end

section
/-! The link port: that a row's frame is read back as the row (R184 to R188), and the order of the port's refusals (R188). -/

namespace Sys2Proof.Machine

/-! ### Rows and frames -/

/-- The rows that a frame carries: the 36 commands by their codes, and a code that is none of theirs. -/
theorem linkParts_eq_some {i : Instr} {code : Byte} {f : Frame} (h : linkParts i = some (code, f)) :
    (∃ c, i = linkInstr c f ∧ code = commandCode c) ∨ i = .unknownCommand code f := by
  cases i with
  | unknownCommand code' g => obtain ⟨rfl, rfl⟩ := Prod.mk.inj (Option.some.inj h); exact .inr rfl
  | _ =>
    cases h <;> exact .inl ⟨_, rfl, rfl⟩

/-- What the bits of a code's frame are read back as. -/
theorem decodeFrame_frameBytes (code : Byte) (f : Frame) :
    decodeFrame (bytesBits (frameBytes code f)) =
      match commandOfCode code with
      | some c => linkInstr c f
      | none => .unknownCommand code f := by
  rw [decodeFrame, if_pos (frameAccepted_frameBytes code f), bitsBytes_bytesBits]
  rfl

/-- Settles O10: a rejected frame is not accepted, and an accepted one has its code's bytes. -/
theorem frameBitsDecodeToTheirCommand : Obligations.FrameBitsDecodeToTheirCommand := by
  intro i bits formed carried
  have parts : (∃ code f, linkParts i = some (code, f) ∧ bits = bytesBits (frameBytes code f)) ∨ i = .frameRejected bits := by
    unfold frameOf at carried
    split at carried
    · exact .inr (congrArg _ (Option.some.inj carried))
    · obtain ⟨⟨code, f⟩, h, rfl⟩ := Option.map_eq_some_iff.mp carried
      exact .inl ⟨code, f, h, rfl⟩
  rcases parts with ⟨code, f, h, rfl⟩ | rfl
  · rw [decodeFrame_frameBytes]
    rcases linkParts_eq_some h with ⟨c, rfl, rfl⟩ | rfl
    · rw [commandOfCode_commandCode]
    · have none_ : commandOfCode code = none := Option.isNone_iff_eq_none.mp formed
      rw [none_]
  · have rejected : frameAccepted bits = false := by simpa [Instr.wellFormed] using formed
    rw [decodeFrame, rejected]; rfl

end Sys2Proof.Machine
end


section
/-! The order of the port's refusals (R188), and the reserved bits of every request (R195). -/

namespace Sys2Proof.Machine

/-! ### The port's refusals -/

/-- Each of the 36 commands is its port's judgment and its owner. -/
theorem exec_linkInstr (c : Command) (f : Frame) (s : State) :
    ∃ owner : State → State × Answer, exec (linkInstr c f) s = .next (linkCommand c f s owner) := by
  cases c <;> exact ⟨_, rfl⟩

variable {c : Command} {f : Frame} {s : State} (owner : State → State × Answer)

theorem linkCommand_loading (hr : s.inFullReset = false) (ho : s.link.frameOpen = true) (loading : s.modes.mode = .loading) :
    linkCommand c f s owner = s.replied c f .notReady {} := by
  have taken : s.frameTaken = true := by rw [State.frameTaken, hr, ho]; rfl
  rw [← State.prepare_closeFrame ho, linkCommand, if_pos taken]
  rcases judge_eq c f (s.closeFrame (bytesBits (frameBytes (commandCode c) f))) owner with
    ⟨_, judged⟩ | ⟨away, _⟩ | ⟨away, _⟩ | ⟨away, _⟩
  · rw [judged]
  all_goals exact absurd loading away

theorem linkCommand_modeRefused (hr : s.inFullReset = false) (ho : s.link.frameOpen = true) (away : s.modes.mode ≠ .loading)
    (clear : reservedClear c f = true) (refused : s.modes.mode.accepts c = false) :
    linkCommand c f s owner = s.replied c f .modeRefused {} := by
  have taken : s.frameTaken = true := by rw [State.frameTaken, hr, ho]; rfl
  rw [← State.prepare_closeFrame ho, linkCommand, if_pos taken]
  rcases judge_eq c f (s.closeFrame (bytesBits (frameBytes (commandCode c) f))) owner with
    ⟨loading, _⟩ | ⟨_, set, _⟩ | ⟨_, _, _, judged⟩ | ⟨_, _, accepted, _⟩
  · exact absurd loading away
  · exact absurd (set.symm.trans clear) nofun
  · rw [judged]
  · exact absurd (refused.symm.trans accepted) nofun

/-- The commands that a mode does not accept (R165). -/
theorem accepts_eq_false {m : PartMode}
    (h : (c = .actuate ∧ m ≠ .armed) ∨ (c = .disarm ∧ m = .safe) ∨ (c = .leaveSafe ∧ m ≠ .safe) ∨ (c = .storeOpen ∧ m ≠ .standby)) :
    m.accepts c = false := by
  rcases h with ⟨rfl, h⟩ | ⟨rfl, h⟩ | ⟨rfl, h⟩ | ⟨rfl, h⟩ <;> simp [PartMode.accepts, h]

/-! ### The named bits of a request -/

/-- A byte has no bit set outside the named ones. -/
theorem onlyNamed_iff (b named : Byte) : onlyNamed b named = true ↔ ∀ k : Nat, k < 8 → b.getLsbD k = true → named.getLsbD k = true := by
  rw [onlyNamed, beq_iff_eq, BitVec.eq_of_getLsbD_eq_iff]
  refine forall_congr' fun k => forall_congr' fun hk => ?_
  simp [hk]

/-- The bits of the bytes 2 to 10, byte by byte. -/
theorem reservedClear_iff :
    reservedClear c f = true ↔
      f.b1.toNat < 16 ∧ ∀ n : Nat, 2 ≤ n → n ≤ 10 → onlyNamed (frameByte f n) (frameByte (namedBits f c) n) = true := by
  simp only [reservedClear, Bool.and_eq_true, onlyNamed_tag_iff, and_assoc]
  refine and_congr_right fun _ => ⟨?_, fun h => ?_⟩
  · rintro ⟨h2, h3, h4, h5, h6, h7, h8, h9, h10⟩ n lo hi
    interval_cases n <;> assumption
  · exact ⟨h 2 (by omega) (by omega), h 3 (by omega) (by omega), h 4 (by omega) (by omega), h 5 (by omega) (by omega),
      h 6 (by omega) (by omega), h 7 (by omega) (by omega), h 8 (by omega) (by omega), h 9 (by omega) (by omega),
      h 10 (by omega) (by omega)⟩

/-- A layout names the bits of its fields: the bits that the model masks are those of the request's fields. -/
def namesFields (c : Command) (f : Frame) : Prop :=
  ∀ n : Nat, n < 11 → 2 ≤ n → ∀ k : Nat, k < 8 →
    ((frameByte (namedBits f c) n).getLsbD k = true ↔ ∃ x ∈ requestFields f c, x.byte = n ∧ x.low ≤ k ∧ k ≤ x.high)

/-- A SET_FIELDS names the block of its group, and none where it has none (12.4). -/
theorem namesFields_setFields (f : Frame) : namesFields .setFields f := by
  have group : ∀ g : Byte, f.b3 = g → namesFields .setFields { b3 := g } → namesFields .setFields f := fun g hg h => by
    subst hg; exact h
  by_cases timing : f.b3 = 3
  · exact group 3 timing (by unfold namesFields; decide)
  by_cases motion : f.b3 = 4
  · exact group 4 motion (by unfold namesFields; decide)
  by_cases resistance : f.b3 = 5
  · exact group 5 resistance (by unfold namesFields; decide)
  have none_bits : fieldBlockBits f.b3 = fieldBlockBits 0 := by
    rw [fieldBlockBits, if_neg timing, if_neg motion, if_neg resistance]; rfl
  have none_fields : blockFields f.b3.toNat = blockFields 0 := by
    have h3 : f.b3.toNat ≠ 3 := fun e => timing (BitVec.eq_of_toNat_eq e)
    have h4 : f.b3.toNat ≠ 4 := fun e => motion (BitVec.eq_of_toNat_eq e)
    have h5 : f.b3.toNat ≠ 5 := fun e => resistance (BitVec.eq_of_toNat_eq e)
    simp [blockFields, h3, h4, h5]
  have none_ : namesFields .setFields { b3 := 0 } := by unfold namesFields; decide
  unfold namesFields at none_ ⊢
  simp only [namedBits, requestFields, none_bits, none_fields] at none_ ⊢
  exact none_

/-- Every request names the bits of its fields, and SET_FIELDS alone has fields that its own bytes choose. -/
theorem namesFields_all (c : Command) (f : Frame) : namesFields c f := by
  by_cases fields : c = .setFields
  · subst fields; exact namesFields_setFields f
  · have fixed : namesFields c {} → namesFields c f := by
      cases c with
      | setFields => exact absurd rfl fields
      | _ => exact id
    refine fixed ?_
    unfold namesFields
    cases c with
    | setFields => exact absurd rfl fields
    | _ => decide

theorem reservedClear_iff_requestFields :
    reservedClear c f = true ↔
      f.b1.toNat < 16 ∧
        ∀ n k : Nat, 2 ≤ n → n ≤ 10 → k < 8 → (frameByte f n).getLsbD k = true →
          ∃ x ∈ requestFields f c, x.byte = n ∧ x.low ≤ k ∧ k ≤ x.high := by
  rw [reservedClear_iff]
  refine and_congr_right fun _ => ⟨fun h n k lo hi hk set => ?_, fun h n lo hi => ?_⟩
  · exact (namesFields_all c f n (by omega) lo k hk).mp ((onlyNamed_iff ..).mp (h n lo hi) k hk set)
  · exact (onlyNamed_iff ..).mpr fun k hk set => (namesFields_all c f n (by omega) lo k hk).mpr (h n k lo hi hk set)

/-- Settles O9: the judgment's branches in their order, the masks bit by bit, and the codes read off. -/
theorem portRefusesInOrder : Obligations.PortRefusesInOrder := by
  refine ⟨fun c f s => ?_, fun c f => reservedClear_iff_requestFields, by decide⟩
  obtain ⟨owner, run⟩ := exec_linkInstr c f s
  rw [run]
  refine ⟨fun closed => ?_, fun hr ho => ⟨fun loading => ?_, fun away set => ?_, fun away clear refused => ?_⟩⟩
  · have untaken : s.frameTaken = false := by rcases closed with h | h <;> simp [State.frameTaken, h]
    rw [linkCommand_of_not_taken c f s owner untaken]
  · rw [linkCommand_loading owner hr ho loading]
  · rw [linkCommand_reserved owner hr ho away set]
  · rw [linkCommand_modeRefused owner hr ho away clear (accepts_eq_false refused)]

end Sys2Proof.Machine
end


section
/-! The check of a frame (R186): the register bit by bit, and the changes of a frame that leave it not accepted. -/

namespace Sys2Proof.Machine

/-! ### The register is linear -/

/-- One bit taken into the register. -/
def crc8Bit (r : BitVec 8) (b : Bool) : BitVec 8 := crc8Shift (r ^^^ if b then 0x80#8 else 0#8)

theorem crc8Shift_eq (r : BitVec 8) : crc8Shift r = (r <<< 1) ^^^ (if r.msb then Config.crc8Poly else 0#8) := by
  unfold crc8Shift
  split <;> simp

theorem crc8Shift_xor (r q : BitVec 8) : crc8Shift (r ^^^ q) = crc8Shift r ^^^ crc8Shift q := by
  have carried : ∀ a b : Bool, (if (a ^^ b) then Config.crc8Poly else 0#8) =
      (if a then Config.crc8Poly else 0#8) ^^^ (if b then Config.crc8Poly else 0#8) := by decide
  simp only [crc8Shift_eq, BitVec.msb_xor, BitVec.shiftLeft_xor_distrib, carried]
  ac_rfl

theorem crc8Shift_eq_zero {r : BitVec 8} (h : crc8Shift r = 0) : r = 0 := by
  revert r; decide +kernel

theorem crc8Bit_xor (r q : BitVec 8) (a b : Bool) : crc8Bit (r ^^^ q) (a ^^ b) = crc8Bit r a ^^^ crc8Bit q b := by
  have entered : ∀ a b : Bool, (if (a ^^ b) then 0x80#8 else 0#8) =
      (if a then 0x80#8 else 0#8) ^^^ (if b then 0x80#8 else 0#8) := by decide
  rw [crc8Bit, crc8Bit, crc8Bit, ← crc8Shift_xor, entered]
  congr 1
  ac_rfl

/-- The registers over two frames of one length differ by the register over their difference. -/
theorem foldl_crc8Bit_xor : ∀ (as bs : List Bool), as.length = bs.length → ∀ r q : BitVec 8,
    (List.zipWith xor as bs).foldl crc8Bit (r ^^^ q) = as.foldl crc8Bit r ^^^ bs.foldl crc8Bit q
  | [], [], _, _, _ => rfl
  | a :: as, b :: bs, h, r, q => by
    rw [List.zipWith_cons_cons, List.foldl_cons, List.foldl_cons, List.foldl_cons, crc8Bit_xor]
    exact foldl_crc8Bit_xor as bs (Nat.succ.inj h) _ _

/-! ### The check, bit by bit -/

theorem byteBits_byteOfBits (b7 b6 b5 b4 b3 b2 b1 b0 : Bool) :
    byteBits (byteOfBits b7 b6 b5 b4 b3 b2 b1 b0) = [b7, b6, b5, b4, b3, b2, b1, b0] := by
  revert b7 b6 b5 b4 b3 b2 b1 b0; decide

/-- A byte's eight shifts are its bits taken one after another (R184, R186). -/
theorem crc8Byte_eq_foldl (r : BitVec 8) (b : Byte) : crc8Byte r b = (byteBits b).foldl crc8Bit r := by
  have byte : ∀ b : Byte, crc8Byte 0 b = (byteBits b).foldl crc8Bit 0 := by decide +kernel
  have zeros : ∀ r : BitVec 8, (byteBits 0).foldl crc8Bit r = crc8Byte r 0 := by decide +kernel
  have split : crc8Byte r b = crc8Byte r 0 ^^^ crc8Byte 0 b := by
    simp only [crc8Byte, ← crc8Shift_xor]
    simp
  have same : List.zipWith xor (byteBits 0) (byteBits b) = byteBits b := by simp [byteBits]
  rw [split, byte, ← zeros, ← foldl_crc8Bit_xor (byteBits 0) (byteBits b) rfl, same]
  congr 1
  exact BitVec.xor_zero

/-- The check over the whole bytes of a list of bits is the register over the bits. -/
theorem foldl_crc8Bit_eq_crc8 : ∀ (bits : List Bool), bits.length % 8 = 0 → ∀ r : BitVec 8,
    (bitsBytes bits).foldl crc8Byte r = bits.foldl crc8Bit r
  | b7 :: b6 :: b5 :: b4 :: b3 :: b2 :: b1 :: b0 :: rest, h, r => by
    rw [bitsBytes, List.foldl_cons, crc8Byte_eq_foldl, byteBits_byteOfBits,
      foldl_crc8Bit_eq_crc8 rest (by simp only [List.length_cons] at h; omega)]
    rfl
  | [], _, _ => rfl
  | [_], h, _ | [_, _], h, _ | [_, _, _], h, _ | [_, _, _, _], h, _ | [_, _, _, _, _], h, _ | [_, _, _, _, _, _], h, _
  | [_, _, _, _, _, _, _], h, _ => absurd h (by simp)

/-- The register is 0 after a byte that is its own content, and after no other. -/
theorem crc8Byte_eq_zero_iff (r : BitVec 8) (b : Byte) : crc8Byte r b = 0 ↔ b = r := by
  have shifted : ∀ x : BitVec 8, crc8Shift (crc8Shift (crc8Shift (crc8Shift (crc8Shift (crc8Shift (crc8Shift (crc8Shift x))))))) = 0 →
      x = 0 := fun x h => by
    iterate 8 replace h := crc8Shift_eq_zero h
    exact h
  constructor
  · intro h
    exact (BitVec.xor_eq_zero_iff.mp (shifted _ h)).symm
  · rintro rfl
    rw [crc8Byte, BitVec.xor_self]; decide

/-- A frame of 96 bits is accepted where the register over all of its bits is 0 (R186). -/
theorem frameAccepted_iff_register {bits : List Bool} (h : bits.length = 96) :
    frameAccepted bits = true ↔ bits.foldl crc8Bit Config.crc8Init = 0 := by
  have length : (bitsBytes bits).length = 12 := by rw [bitsBytes_length, h]
  rw [frameAccepted_iff_of_length h, ← foldl_crc8Bit_eq_crc8 bits (by omega)]
  have whole : bitsBytes bits = (bitsBytes bits).take 11 ++ [(bitsBytes bits)[11]] := by
    rw [List.take_append_getElem, List.take_of_length_le (by omega)]
  rw [List.getElem?_eq_getElem (by omega), Option.some_inj]
  conv_rhs => rw [whole]
  rw [List.foldl_append, List.foldl_cons, List.foldl_nil, crc8Byte_eq_zero_iff]
  rfl

/-! ### Changes that the check finds -/

/-- A bit list that is 0 at every place. -/
theorem eq_replicate_false {l : List Bool} (h : ∀ n : Nat, l[n]? ≠ some true) : l = List.replicate l.length false := by
  refine List.eq_replicate_iff.mpr ⟨rfl, fun b hb => ?_⟩
  obtain ⟨n, hn⟩ := List.mem_iff_getElem?.mp hb
  cases b with
  | false => rfl
  | true => exact absurd hn (h n)

/-- Bits that are 0 shift the register. -/
theorem foldl_replicate_false (r : BitVec 8) (n : Nat) : (List.replicate n false).foldl crc8Bit r = crc8Shift^[n] r := by
  induction n generalizing r with
  | zero => rfl
  | succ n ih =>
    have first : crc8Bit r false = crc8Shift r := by simp [crc8Bit]
    rw [List.replicate_succ, List.foldl_cons, ih, first, Function.iterate_succ_apply]

theorem iterate_crc8Shift_eq_zero {r : BitVec 8} {n : Nat} (h : crc8Shift^[n] r = 0) : r = 0 := by
  induction n with
  | zero => exact h
  | succ n ih => rw [Function.iterate_succ_apply'] at h; exact ih (crc8Shift_eq_zero h)

theorem iterate_crc8Shift_zero (n : Nat) : crc8Shift^[n] (0 : BitVec 8) = 0 := by
  induction n with
  | zero => rfl
  | succ n ih => rw [Function.iterate_succ_apply', ih]; decide

/-- The register runs to the first 1 of a bit list, takes it, and runs on. -/
theorem foldl_crc8Bit_of_first {l : List Bool} {i : Nat} (at_ : l[i]? = some true) (before : ∀ n, n < i → l[n]? ≠ some true)
    (r : BitVec 8) : l.foldl crc8Bit r = (l.drop (i + 1)).foldl crc8Bit (crc8Bit (crc8Shift^[i] r) true) := by
  obtain ⟨lt, here⟩ := List.getElem?_eq_some_iff.mp at_
  have head : l.take i = List.replicate i false := by
    have zeros := eq_replicate_false (l := l.take i) fun n => by
      rw [List.getElem?_take]
      split
      · next hn => exact before n hn
      · nofun
    rwa [List.length_take, Nat.min_eq_left lt.le] at zeros
  have split : l = l.take i ++ true :: l.drop (i + 1) := by
    rw [← here, List.cons_getElem_drop_succ, List.take_append_drop]
  conv_lhs => rw [split]
  rw [List.foldl_append, List.foldl_cons, head, foldl_replicate_false]

/-- Eight bits in a row, the first of them 1, leave a register that is not 0. -/
theorem foldl_crc8Bit_seven : ∀ l : List Bool, l.length = 7 → l.foldl crc8Bit (crc8Bit 0 true) ≠ 0
  | [a, b, c, d, e, f, g], _ => by revert a b c d e f g; decide

/-- The register over a difference whose first 1 is followed by others only within eight bits is not 0. -/
theorem foldl_crc8Bit_burst {l : List Bool} {i : Nat} (at_ : l[i]? = some true) (before : ∀ n, n < i → l[n]? ≠ some true)
    (after : ∀ n, i + 8 ≤ n → l[n]? ≠ some true) : l.foldl crc8Bit 0 ≠ 0 := by
  intro zero
  rw [foldl_crc8Bit_of_first at_ before, iterate_crc8Shift_zero] at zero
  -- seven 0 bits put after the list make the bits that follow the first 1 at least seven
  have padded : (l.drop (i + 1) ++ List.replicate 7 false).foldl crc8Bit (crc8Bit 0 true) = 0 := by
    rw [List.foldl_append, zero, foldl_replicate_false, iterate_crc8Shift_zero]
  rw [← List.take_append_drop 7 (l.drop (i + 1) ++ List.replicate 7 false), List.foldl_append] at padded
  have rest := eq_replicate_false (l := (l.drop (i + 1) ++ List.replicate 7 false).drop 7) fun n => by
    rw [List.getElem?_drop, List.getElem?_append]
    split
    · rw [List.getElem?_drop]; exact after _ (by omega)
    · rw [List.getElem?_replicate]; split <;> simp
  rw [rest, foldl_replicate_false] at padded
  exact foldl_crc8Bit_seven _ (by simp) (iterate_crc8Shift_eq_zero padded)

/-- The register does not come back to its first bit within a frame: the generator's order is more than 96. -/
theorem iterate_crc8Shift_ne : ∀ n < 95, crc8Shift^[n] (crc8Bit 0 true) ≠ 0x80#8 := by decide +kernel

/-- The register over a difference of 96 bits with two 1 bits is not 0. -/
theorem foldl_crc8Bit_two {l : List Bool} {i j : Nat} (length : l.length = 96) (lt : i < j) (first : l[i]? = some true)
    (second : l[j]? = some true) (others : ∀ n, n ≠ i → n ≠ j → l[n]? ≠ some true) : l.foldl crc8Bit 0 ≠ 0 := by
  intro zero
  rw [foldl_crc8Bit_of_first first fun n hn => others n (by omega) (by omega), iterate_crc8Shift_zero,
    foldl_crc8Bit_of_first (l := l.drop (i + 1)) (i := j - (i + 1)) (by rw [List.getElem?_drop, ← second]; congr 1; omega)
      fun n hn => by rw [List.getElem?_drop]; exact others _ (by omega) (by omega)] at zero
  have rest := eq_replicate_false (l := (l.drop (i + 1)).drop (j - (i + 1) + 1)) fun n => by
    rw [List.getElem?_drop, List.getElem?_drop]; exact others _ (by omega) (by omega)
  rw [rest, foldl_replicate_false] at zero
  have within : j < 96 := length ▸ (List.getElem?_eq_some_iff.mp second).1
  have back := crc8Shift_eq_zero (iterate_crc8Shift_eq_zero zero)
  exact iterate_crc8Shift_ne (j - (i + 1)) (by omega) (BitVec.xor_eq_zero_iff.mp back)

/-- Settles O11: the register over an accepted frame and a changed one differ by the register over the change, which is not 0. -/
theorem checkByteDetectsChanges : Obligations.CheckByteDetectsChanges := by
  intro bits changed accepted length different change
  have bits96 : bits.length = 96 := by
    by_contra h
    exact absurd (accepted.symm.trans (frameAccepted_of_length_ne h)) nofun
  have changed96 : changed.length = 96 := length.trans bits96
  rw [Bool.eq_false_iff]
  intro both
  rw [frameAccepted_iff_register bits96] at accepted
  rw [frameAccepted_iff_register changed96] at both
  have zero := foldl_crc8Bit_xor changed bits length Config.crc8Init Config.crc8Init
  rw [accepted, both, BitVec.xor_self, BitVec.xor_self] at zero
  generalize hd : List.zipWith xor changed bits = d at zero
  have d96 : d.length = 96 := by rw [← hd]; simp [changed96, bits96]
  -- the difference is 1 exactly at the bits that changed
  have at_iff : ∀ n : Nat, d[n]? = some true ↔ changed[n]? ≠ bits[n]? := fun n => by
    rw [← hd]
    by_cases hn : n < 96
    · rw [List.getElem?_zipWith, List.getElem?_eq_getElem (by omega : n < changed.length),
        List.getElem?_eq_getElem (by omega : n < bits.length)]
      simp
    · rw [List.getElem?_eq_none (by simp [changed96, bits96]; omega), List.getElem?_eq_none (by omega), List.getElem?_eq_none (by omega)]
      simp
  have some_ : ∃ n : Nat, d[n]? = some true := by
    by_contra none_
    exact different (List.ext_getElem? fun n => by_contra fun h => none_ ⟨n, (at_iff n).mpr h⟩)
  classical
  obtain ⟨i, here, least⟩ : ∃ i, d[i]? = some true ∧ ∀ n, n < i → d[n]? ≠ some true :=
    ⟨Nat.find some_, Nat.find_spec some_, fun n hn => Nat.find_min some_ hn⟩
  rcases change with ⟨a, b, others⟩ | ⟨k, others⟩
  · have named : ∀ n, d[n]? = some true → n = a ∨ n = b := fun n h => by
      by_contra away
      rw [not_or] at away
      exact (at_iff n).mp h (others n away.1 away.2)
    have hi := named i here
    by_cases two : ∃ j, j ≠ i ∧ d[j]? = some true
    · obtain ⟨j, other, there⟩ := two
      have hj := named j there
      have lt : i < j := by
        by_contra le
        exact least j (by omega) there
      exact foldl_crc8Bit_two d96 lt here there (fun n ni nj h => by have := named n h; omega) zero
    · exact foldl_crc8Bit_burst here least (fun n hn h => two ⟨n, by omega, h⟩) zero
  · have within : ∀ n, d[n]? = some true → k ≤ n ∧ n < k + 8 := fun n h => by
      by_contra away
      exact (at_iff n).mp h (others n (by omega))
    have hi := within i here
    exact foldl_crc8Bit_burst here least (fun n hn h => by have := within n h; omega) zero

end Sys2Proof.Machine
end


section
/-! The codings of phase entries and of field groups, in requests and in replies (12.4). -/

namespace Sys2Proof.Machine

/-! ### Bytes -/

/-- A bit of a byte, by its value. -/
theorem byte_getLsbD (b : Byte) (k : Nat) : b.getLsbD k = decide (b.toNat / 2 ^ k % 2 = 1) := by
  rw [BitVec.getLsbD, Nat.testBit_eq_decide_div_mod_eq]

theorem byteOf_toNat {n : Nat} (h : n < 256) : (byteOf n).toNat = n := by
  rw [byteOf, BitVec.toNat_ofNat, Nat.mod_eq_of_lt h]

/-- Two bytes of a value give it back. -/
theorem word16_hiByte_loByte {n : Nat} (h : n < 65536) : word16 (hiByte n) (loByte n) = n := by
  simp only [word16, hiByte, loByte, BitVec.toNat_ofNat]
  omega

theorem byte_eq_iff_toNat (b : Byte) (n : Nat) (h : n < 256) : b.toNat = n ↔ b = BitVec.ofNat 8 n := by
  rw [← BitVec.toNat_inj, BitVec.toNat_ofNat, Nat.mod_eq_of_lt h]

/-! ### Phase entries -/

theorem kindOfCode_eq_some_iff (n : Nat) (k : PhaseKind) : kindOfCode n = some k ↔ n = kindCode k := by
  unfold kindOfCode kindCode
  split_ifs <;> cases k <;> simp_all

/-- The entry that a request's bytes say, were its kind this one. -/
def entryBits (f : Frame) (kind : PhaseKind) : PhaseEntry :=
  { kind := kind
    level := word16 f.b5 f.b6 % 1024
    duration := word16 f.b7 f.b8
    start := if f.b9.getLsbD 7 then some (word16 f.b9 f.b10 % 1024) else none
    hit := f.b4.getLsbD 7
    motion := f.b4.getLsbD 6 }

theorem entryOf_eq_some_iff (f : Frame) (e : PhaseEntry) :
    entryOf f = some e ↔ f.b4.toNat % 8 = kindCode e.kind ∧ e = entryBits f e.kind ∧ e.kept = true := by
  unfold entryOf
  constructor
  · intro h
    split at h
    · cases h
    · next k hk =>
      simp only [Option.ite_none_right_eq_some, Option.some.injEq] at h
      obtain ⟨kept, rfl⟩ := h
      exact ⟨(kindOfCode_eq_some_iff _ _).mp hk, rfl, kept⟩
  · rintro ⟨code, same, kept⟩
    rw [(kindOfCode_eq_some_iff _ _).mpr code]
    have whole : (entryBits f e.kind).kept = true := same ▸ kept
    exact (if_pos whole).trans (congrArg some same.symm)

/-- An entry as a request's bytes say it is kept within its ranges: the start level always is. -/
theorem entryBits_kept_iff (f : Frame) (e : PhaseEntry) (same : e = entryBits f e.kind) :
    e.kept = true ↔
      (e.level ≤ if e.kind = .driveDuty then 255 else 1023) ∧ e.duration ≤ 60000 ∧ (e.start.isSome = true → e.kind = .rampCurrent) := by
  have starts : ∀ v, e.start = some v → v ≤ 1023 := fun v hv => by
    rw [same] at hv
    simp only [entryBits, Option.ite_none_right_eq_some, Option.some.injEq] at hv
    omega
  have level : (if e.kind = .driveDuty then decide (e.level ≤ 255) else decide (e.level ≤ 1023)) = true ↔
      e.level ≤ if e.kind = .driveDuty then 255 else 1023 := by split <;> simp
  unfold PhaseEntry.kept
  rw [Bool.and_eq_true, Bool.and_eq_true, level, decide_eq_true_eq, and_assoc]
  refine and_congr_right fun _ => and_congr_right fun _ => ?_
  cases hs : e.start with
  | none => simp
  | some v => simp [starts v hs]

/-- The bits of a request's entry, item by item. -/
theorem eq_entryBits_iff (f : Frame) (e : PhaseEntry) :
    e = entryBits f e.kind ↔
      e.hit = f.b4.getLsbD 7 ∧ e.motion = f.b4.getLsbD 6 ∧ e.level = (f.b5.toNat * 256 + f.b6.toNat) % 1024 ∧
        e.duration = f.b7.toNat * 256 + f.b8.toNat ∧
        e.start = (if f.b9.getLsbD 7 then some ((f.b9.toNat * 256 + f.b10.toNat) % 1024) else none) := by
  cases e
  simp only [entryBits, word16, PhaseEntry.mk.injEq, true_and]
  tauto

/-- The first byte of an entry as a reply has it. -/
theorem entryByte_eq (hit motion : Bool) {count : Nat} (most : count ≤ 6) (k : PhaseKind) :
    byteOf (bit hit * 128 + bit motion * 64 + count * 8 + kindCode k) =
      BitVec.ofBool hit ++ BitVec.ofBool motion ++ BitVec.ofNat 3 count ++ BitVec.ofNat 3 (kindCode k) := by
  have all : ∀ hit motion : Bool, ∀ count < 7, ∀ code < 6, byteOf (bit hit * 128 + bit motion * 64 + count * 8 + code) =
      BitVec.ofBool hit ++ BitVec.ofBool motion ++ BitVec.ofNat 3 count ++ BitVec.ofNat 3 code := by decide
  exact all hit motion count (by omega) (kindCode k) (by cases k <;> decide)

/-- An entry that the part keeps has its start level within ten bits, and on a ramp alone. -/
theorem kept_start {e : PhaseEntry} (kept : e.kept = true) {v : Nat} (start : e.start = some v) : v ≤ 1023 := by
  simp only [PhaseEntry.kept, start, Bool.and_eq_true, decide_eq_true_eq] at kept
  exact kept.2.2

/-- The high byte of a start level as a reply has it: bit 15 marks it present (R197). -/
theorem startByte_eq {o : Option Nat} (most : ∀ v, o = some v → v ≤ 1023) :
    hiByte (startWord o) = BitVec.ofBool o.isSome ++ BitVec.ofNat 7 (o.getD 0 / 256) := by
  cases o with
  | none => decide
  | some v =>
    have all : ∀ m < 4, BitVec.ofNat 8 (128 + m) = BitVec.ofBool true ++ BitVec.ofNat 7 m := by decide
    have le := most v rfl
    have high : (32768 + v) / 256 = 128 + v / 256 := by omega
    rw [startWord, hiByte, high]
    exact all (v / 256) (by omega)

theorem startLow_eq (o : Option Nat) : loByte (startWord o) = BitVec.ofNat 8 (o.getD 0) := by
  cases o with
  | none => rfl
  | some v => simp [startWord, loByte, BitVec.ofNat_add]

/-- An entry that the part keeps, written by a request with the bytes that a reply has of it (12.4). -/
theorem entryOf_entryData {e : PhaseEntry} {count : Nat} {f : Frame} (kept : e.kept = true) (most : count ≤ 6)
    (h4 : f.b4 = (entryData e count).b4) (h5 : f.b5 = (entryData e count).b5) (h6 : f.b6 = (entryData e count).b6)
    (h7 : f.b7 = (entryData e count).b7) (h8 : f.b8 = (entryData e count).b8) (h9 : f.b9 = (entryData e count).b9)
    (h10 : f.b10 = (entryData e count).b10) : entryOf f = some e := by
  have ranges := kept
  simp only [PhaseEntry.kept, Bool.and_eq_true, decide_eq_true_eq] at ranges
  obtain ⟨⟨level, duration⟩, _⟩ := ranges
  have level : e.level ≤ 1023 := by
    split at level
    · exact (of_decide_eq_true level).trans (by decide)
    · exact of_decide_eq_true level
  have code : 1 ≤ kindCode e.kind ∧ kindCode e.kind ≤ 5 := by cases e.kind <;> decide
  have b4 : f.b4.toNat = bit e.hit * 128 + bit e.motion * 64 + count * 8 + kindCode e.kind := by
    rw [h4]
    refine byteOf_toNat ?_
    have hit : bit e.hit ≤ 1 := by cases e.hit <;> decide
    have motion : bit e.motion ≤ 1 := by cases e.motion <;> decide
    omega
  have start : (if f.b9.getLsbD 7 then some (word16 f.b9 f.b10 % 1024) else none) = e.start := by
    cases hs : e.start with
    | none =>
      have clear : f.b9.getLsbD 7 = false := by
        rw [h9]
        show (hiByte (startWord e.start)).getLsbD 7 = false
        rw [hs]; decide
      rw [clear]; rfl
    | some v =>
      have le := kept_start kept hs
      have word : word16 f.b9 f.b10 = 32768 + v := by
        rw [h9, h10, entryData, hs]; exact word16_hiByte_loByte (n := 32768 + v) (by omega)
      have marked : f.b9.getLsbD 7 = true := by
        have := f.b10.isLt
        rw [byte_getLsbD, decide_eq_true_eq]
        rw [word16] at word
        omega
      rw [if_pos marked, word]
      congr 1
      omega
  refine (entryOf_eq_some_iff f e).mpr ⟨by omega, ?_, kept⟩
  have hit : f.b4.getLsbD 7 = e.hit := by
    rw [byte_getLsbD, b4]
    cases e.hit <;> cases e.motion <;> simp [bit] <;> omega
  have motion : f.b4.getLsbD 6 = e.motion := by
    rw [byte_getLsbD, b4]
    cases e.hit <;> cases e.motion <;> simp [bit] <;> omega
  have level_ : word16 f.b5 f.b6 % 1024 = e.level := by
    rw [h5, h6]
    exact (congrArg (· % 1024) (word16_hiByte_loByte (n := e.level) (by omega))).trans (Nat.mod_eq_of_lt (by omega))
  have duration_ : word16 f.b7 f.b8 = e.duration := by rw [h7, h8]; exact word16_hiByte_loByte (by omega)
  simp only [entryBits, start, hit, motion, level_, duration_]

/-! ### Field groups -/

theorem within_iff (lo v hi : Nat) : within lo v hi = true ↔ lo ≤ v ∧ v ≤ hi := by
  simp only [within, Bool.and_eq_true, decide_eq_true_eq]

/-- The TIMING group that a request's bytes say. -/
theorem timingOf_eq_some_iff (f : Frame) (old v : Fields) :
    timingOf f old = some v ↔
      v = { old with
        minOn := f.b4.toNat * 256 + f.b5.toNat, holdCap := f.b6.toNat * 256 + f.b7.toNat
        hitTolerance := f.b8.toNat, failureThreshold := f.b9.toNat % 16 } ∧
      v.minOn ≤ 20000 ∧ 1 ≤ v.holdCap ∧ v.holdCap ≤ 6000 ∧ v.hitTolerance ≤ 50 := by
  simp only [timingOf, word16, Option.ite_none_right_eq_some, Option.some.injEq, Bool.and_eq_true, within_iff]
  constructor
  · rintro ⟨⟨⟨⟨⟨_, minOn⟩, low, high⟩, _, tolerance⟩, _⟩, rfl⟩
    exact ⟨rfl, minOn, low, high, tolerance⟩
  · rintro ⟨rfl, minOn, low, high, tolerance⟩
    exact ⟨⟨⟨⟨⟨Nat.zero_le _, minOn⟩, low, high⟩, Nat.zero_le _, tolerance⟩, Nat.zero_le _, by omega⟩, rfl⟩

/-- The MOTION group that a request's bytes say. -/
theorem motionOf_eq_some_iff (f : Frame) (old v : Fields) :
    motionOf f old = some v ↔
      v = { old with
        dipThreshold := if f.b4.getLsbD 7 then some (f.b4.toNat % 128) else none
        dipPersistence := f.b5.toNat % 32
        travelWindow := if f.b5.getLsbD 7 then
          some { lo := f.b6.toNat * 256 + f.b7.toNat, hi := f.b8.toNat * 256 + f.b9.toNat } else none } ∧
      (∀ t, v.dipThreshold = some t → 1 ≤ t ∧ t ≤ 100) ∧ 2 ≤ v.dipPersistence ∧ v.dipPersistence ≤ 30 ∧
      ∀ w, v.travelWindow = some w → 1 ≤ w.lo ∧ w.lo ≤ 60000 ∧ 1 ≤ w.hi ∧ w.hi ≤ 60000 := by
  simp only [motionOf, Option.ite_none_right_eq_some]
  simp only [Option.some.injEq, Bool.and_eq_true, Option.all_eq_true, within_iff, and_assoc, word16]
  constructor
  · rintro ⟨threshold, low, high, travel, rfl⟩
    exact ⟨rfl, threshold, low, high, travel⟩
  · rintro ⟨rfl, threshold, low, high, travel⟩
    exact ⟨threshold, low, high, travel, rfl⟩

/-- The RESISTANCE group that a request's bytes say: two bytes are never above 65535. -/
theorem resistanceOf_eq_some_iff (f : Frame) (old v : Fields) :
    resistanceOf f old = some v ↔
      v = { old with
        resistanceWindow := if f.b4.getLsbD 7 then
          some { lo := f.b5.toNat * 256 + f.b6.toNat, hi := f.b7.toNat * 256 + f.b8.toNat } else none } ∧
      ∀ w, v.resistanceWindow = some w → 1 ≤ w.lo ∧ 1 ≤ w.hi := by
  have most : ∀ a b : Byte, a.toNat * 256 + b.toNat ≤ 65535 := fun a b => by
    have := a.isLt
    have := b.isLt
    omega
  simp only [resistanceOf, Option.ite_none_right_eq_some]
  simp only [Option.some.injEq, Bool.and_eq_true, Option.all_eq_true, within_iff, word16]
  constructor
  · rintro ⟨window, rfl⟩
    exact ⟨rfl, fun w hw => ⟨(window w hw).1.1, (window w hw).2.1⟩⟩
  · rintro ⟨rfl, window⟩
    refine ⟨fun w hw => ?_, rfl⟩
    obtain ⟨lo, hi⟩ := window w hw
    obtain ⟨_, same⟩ := Option.ite_none_right_eq_some.mp hw
    obtain rfl := Option.some.inj same
    exact ⟨⟨lo, most _ _⟩, hi, most _ _⟩

/-- A SET_FIELDS by its group. -/
theorem fieldsOf_group (f : Frame) (old : Fields) :
    (f.b3.toNat < 3 ∨ 5 < f.b3.toNat → fieldsOf f old = none) ∧ (f.b3.toNat = 3 → fieldsOf f old = timingOf f old) ∧
      (f.b3.toNat = 4 → fieldsOf f old = motionOf f old) ∧ (f.b3.toNat = 5 → fieldsOf f old = resistanceOf f old) := by
  have h3 : f.b3 = 3 ↔ f.b3.toNat = 3 := (byte_eq_iff_toNat f.b3 3 (by decide)).symm
  have h4 : f.b3 = 4 ↔ f.b3.toNat = 4 := (byte_eq_iff_toNat f.b3 4 (by decide)).symm
  have h5 : f.b3 = 5 ↔ f.b3.toNat = 5 := (byte_eq_iff_toNat f.b3 5 (by decide)).symm
  unfold fieldsOf
  refine ⟨fun h => ?_, fun h => if_pos (h3.mpr h), fun h => ?_, fun h => ?_⟩
  · rw [if_neg (fun e => by have := h3.mp e; omega), if_neg (fun e => by have := h4.mp e; omega),
      if_neg (fun e => by have := h5.mp e; omega)]
  · rw [if_neg (fun e => by have := h3.mp e; omega), if_pos (h4.mpr h)]
  · rw [if_neg (fun e => by have := h3.mp e; omega), if_neg (fun e => by have := h4.mp e; omega), if_pos (h5.mpr h)]

/-- An item with its mark in bit 7, and 0 where it is absent (R197). -/
def markedItem : Option Nat → Nat
  | none => 0
  | some t => 128 + t

/-- An item of a value and a mark, as a reply's byte has it (R197). -/
theorem markedByte_eq {o : Option Nat} (most : ∀ t, o = some t → t ≤ 100) :
    byteOf (markedItem o) = BitVec.ofBool o.isSome ++ BitVec.ofNat 7 (o.getD 0) := by
  cases o with
  | none => decide
  | some t =>
    have all : ∀ t < 101, byteOf (128 + t) = BitVec.ofBool true ++ BitVec.ofNat 7 t := by decide
    exact all t (Nat.lt_succ_of_le (most t rfl))

theorem windowBounds_eq (o : Option Window) :
    windowBounds o = ((o.getD { lo := 0, hi := 0 }).lo, (o.getD { lo := 0, hi := 0 }).hi) := by
  cases o <;> rfl

/-- The ranges of fields that the part keeps (R28). -/
theorem Fields.kept_iff (v : Fields) :
    v.kept = true ↔
      v.minOn ≤ 20000 ∧ (1 ≤ v.holdCap ∧ v.holdCap ≤ 6000) ∧ v.hitTolerance ≤ 50 ∧
        (∀ t, v.dipThreshold = some t → 1 ≤ t ∧ t ≤ 100) ∧ (2 ≤ v.dipPersistence ∧ v.dipPersistence ≤ 30) ∧
        (∀ w, v.travelWindow = some w → (1 ≤ w.lo ∧ w.lo ≤ 60000) ∧ 1 ≤ w.hi ∧ w.hi ≤ 60000) ∧
        (∀ w, v.resistanceWindow = some w → (1 ≤ w.lo ∧ w.lo ≤ 65535) ∧ 1 ≤ w.hi ∧ w.hi ≤ 65535) ∧ v.failureThreshold ≤ 15 := by
  simp only [Fields.kept, Bool.and_eq_true, Option.all_eq_true, within_iff, and_assoc, Nat.zero_le, true_and]

/-- A marked item read back from its byte. -/
theorem markedByte_read {o : Option Nat} (most : ∀ t, o = some t → t ≤ 100) {b : Byte}
    (h : b = byteOf (markedItem o)) :
    (if b.getLsbD 7 then some (b.toNat % 128) else none) = o := by
  subst h
  cases o with
  | none => decide
  | some t =>
    have all : ∀ t < 101, (if (byteOf (128 + t)).getLsbD 7 then some ((byteOf (128 + t)).toNat % 128) else none) = some t := by decide
    exact all t (Nat.lt_succ_of_le (most t rfl))

/-- A window read back from its mark and its four bytes. -/
theorem window_read {o : Option Window} (most : ∀ w, o = some w → w.lo ≤ 65535 ∧ w.hi ≤ 65535) {mark : Bool} {b6 b7 b8 b9 : Byte}
    (hm : mark = o.isSome) (h6 : b6 = hiByte (windowBounds o).1) (h7 : b7 = loByte (windowBounds o).1)
    (h8 : b8 = hiByte (windowBounds o).2) (h9 : b9 = loByte (windowBounds o).2) :
    (if mark then some { lo := b6.toNat * 256 + b7.toNat, hi := b8.toNat * 256 + b9.toNat : Window } else none) = o := by
  subst hm h6 h7 h8 h9
  cases o with
  | none => rfl
  | some w =>
    obtain ⟨lo, hi⟩ := most w rfl
    have low : (hiByte w.lo).toNat * 256 + (loByte w.lo).toNat = w.lo := word16_hiByte_loByte (by omega)
    have high : (hiByte w.hi).toNat * 256 + (loByte w.hi).toNat = w.hi := word16_hiByte_loByte (by omega)
    simp only [Option.isSome_some, if_true, windowBounds, low, high]

/-- The byte of the dip persistence, with the travel window's mark (12.4). -/
theorem persistenceByte_eq (mark : Bool) {n : Nat} (most : n ≤ 30) :
    byteOf (bit mark * 128 + n) = BitVec.ofBool mark ++ 0#2 ++ BitVec.ofNat 5 n ∧
      (byteOf (bit mark * 128 + n)).getLsbD 7 = mark ∧ (byteOf (bit mark * 128 + n)).toNat % 32 = n := by
  have all : ∀ mark : Bool, ∀ n < 31, byteOf (bit mark * 128 + n) = BitVec.ofBool mark ++ 0#2 ++ BitVec.ofNat 5 n ∧
      (byteOf (bit mark * 128 + n)).getLsbD 7 = mark ∧ (byteOf (bit mark * 128 + n)).toNat % 32 = n := by decide
  exact all mark n (by omega)

theorem markByte_eq (mark : Bool) :
    byteOf (bit mark * 128) = BitVec.ofBool mark ++ 0#7 ∧ (byteOf (bit mark * 128)).getLsbD 7 = mark := by
  revert mark; decide

/-- A TIMING group that the part keeps, written by a request with the bytes that a reply has of it. -/
theorem timingOf_timingData {v : Fields} (old : Fields) {f : Frame} (kept : v.kept = true) (h4 : f.b4 = (timingData v).b4)
    (h5 : f.b5 = (timingData v).b5) (h6 : f.b6 = (timingData v).b6) (h7 : f.b7 = (timingData v).b7)
    (h8 : f.b8 = (timingData v).b8) (h9 : f.b9 = (timingData v).b9) :
    timingOf f old = some
      { old with
        minOn := v.minOn, holdCap := v.holdCap, hitTolerance := v.hitTolerance, failureThreshold := v.failureThreshold } := by
  obtain ⟨minOn, ⟨low, high⟩, tolerance, _, _, _, _, threshold⟩ := v.kept_iff.mp kept
  refine (timingOf_eq_some_iff f old _).mpr ⟨?_, minOn, low, high, tolerance⟩
  have hm : f.b4.toNat * 256 + f.b5.toNat = v.minOn := by rw [h4, h5]; exact word16_hiByte_loByte (by omega)
  have hc : f.b6.toNat * 256 + f.b7.toNat = v.holdCap := by rw [h6, h7]; exact word16_hiByte_loByte (by omega)
  have ht : f.b8.toNat = v.hitTolerance := by rw [h8]; exact byteOf_toNat (by omega)
  have hf : f.b9.toNat = v.failureThreshold := by rw [h9]; exact byteOf_toNat (by omega)
  simp only [hm, hc, ht, hf, Nat.mod_eq_of_lt (Nat.lt_succ_of_le threshold)]

/-- A MOTION group that the part keeps, written so. -/
theorem motionOf_motionData {v : Fields} (old : Fields) {f : Frame} (kept : v.kept = true) (h4 : f.b4 = (motionData v).b4)
    (h5 : f.b5 = (motionData v).b5) (h6 : f.b6 = (motionData v).b6) (h7 : f.b7 = (motionData v).b7)
    (h8 : f.b8 = (motionData v).b8) (h9 : f.b9 = (motionData v).b9) :
    motionOf f old = some
      { old with dipThreshold := v.dipThreshold, dipPersistence := v.dipPersistence, travelWindow := v.travelWindow } := by
  obtain ⟨_, _, _, dip, ⟨low, high⟩, travel, _⟩ := v.kept_iff.mp kept
  have hd := markedByte_read (fun t ht => (dip t ht).2) h4
  obtain ⟨_, mark, persistence⟩ := persistenceByte_eq v.travelWindow.isSome high
  have h5 : f.b5 = byteOf (bit v.travelWindow.isSome * 128 + v.dipPersistence) := h5
  rw [← h5] at mark persistence
  have hw := window_read (fun w hw => ⟨(travel w hw).1.2.trans (by decide), (travel w hw).2.2.trans (by decide)⟩) mark h6 h7 h8 h9
  refine (motionOf_eq_some_iff f old _).mpr ⟨?_, dip, low, high, fun w hw => ?_⟩
  · simp only [hd, persistence, hw]
  · obtain ⟨⟨h1, h2⟩, h3, h4⟩ := travel w hw
    exact ⟨h1, h2, h3, h4⟩

/-- A RESISTANCE group that the part keeps, written so. -/
theorem resistanceOf_resistanceData {v : Fields} (old : Fields) {f : Frame} (kept : v.kept = true)
    (h4 : f.b4 = (resistanceData v).b4) (h5 : f.b5 = (resistanceData v).b5) (h6 : f.b6 = (resistanceData v).b6)
    (h7 : f.b7 = (resistanceData v).b7) (h8 : f.b8 = (resistanceData v).b8) :
    resistanceOf f old = some { old with resistanceWindow := v.resistanceWindow } := by
  obtain ⟨_, _, _, _, _, _, window, _⟩ := v.kept_iff.mp kept
  obtain ⟨_, mark⟩ := markByte_eq v.resistanceWindow.isSome
  have h4 : f.b4 = byteOf (bit v.resistanceWindow.isSome * 128) := h4
  rw [← h4] at mark
  have hw := window_read (fun w hw => ⟨(window w hw).1.2, (window w hw).2.2⟩) mark h5 h6 h7 h8
  refine (resistanceOf_eq_some_iff f old _).mpr ⟨?_, fun w hw => ⟨(window w hw).1.1, (window w hw).2.1⟩⟩
  simp only [hw]

/-- The bytes of a reply of the three groups (12.4). -/
theorem groupData_eq {v : Fields} (kept : v.kept = true) :
    (timingData v).b9 = 0#4 ++ BitVec.ofNat 4 v.failureThreshold ∧
      (motionData v).b4 = BitVec.ofBool v.dipThreshold.isSome ++ BitVec.ofNat 7 (v.dipThreshold.getD 0) ∧
      (motionData v).b5 = BitVec.ofBool v.travelWindow.isSome ++ 0#2 ++ BitVec.ofNat 5 v.dipPersistence ∧
      (resistanceData v).b4 = BitVec.ofBool v.resistanceWindow.isSome ++ 0#7 := by
  obtain ⟨_, _, _, dip, ⟨_, persistence⟩, _, _, threshold⟩ := v.kept_iff.mp kept
  have all : ∀ n < 16, byteOf n = 0#4 ++ BitVec.ofNat 4 n := by decide
  exact ⟨all _ (Nat.lt_succ_of_le threshold), markedByte_eq fun t ht => (dip t ht).2,
    (persistenceByte_eq v.travelWindow.isSome persistence).1, (markByte_eq v.resistanceWindow.isSome).1⟩

/-- Settles O20: each coding by its own rule, item by item. -/
theorem repliesCarryWhatRequestsWrite : Obligations.RepliesCarryWhatRequestsWrite := by
  refine ⟨fun e count f kept most h4 h5 h6 h7 h8 h9 h10 => entryOf_entryData kept most h4 h5 h6 h7 h8 h9 h10,
    fun v old f kept => ⟨fun group h4 h5 h6 h7 h8 h9 => ?_, fun group h4 h5 h6 h7 h8 h9 => ?_, fun group h4 h5 h6 h7 h8 => ?_⟩,
    fun f e => ?_, fun b => ⟨rfl, rfl⟩, fun f old v => ⟨(fieldsOf_group f old).1, fun group => ?_, fun group => ?_, fun group => ?_⟩,
    fun e count kept most => ?_, fun v kept travel resistance ht hr => ?_⟩
  · rw [(fieldsOf_group f old).2.1 (by rw [group]; rfl), timingOf_timingData old kept h4 h5 h6 h7 h8 h9]
  · rw [(fieldsOf_group f old).2.2.1 (by rw [group]; rfl), motionOf_motionData old kept h4 h5 h6 h7 h8 h9]
  · rw [(fieldsOf_group f old).2.2.2 (by rw [group]; rfl), resistanceOf_resistanceData old kept h4 h5 h6 h7 h8]
  · rw [entryOf_eq_some_iff]
    refine and_congr Iff.rfl ?_
    constructor
    · rintro ⟨same, kept⟩
      obtain ⟨hit, motion, level, duration, start⟩ := (eq_entryBits_iff f e).mp same
      exact ⟨hit, motion, level, duration, start, (entryBits_kept_iff f e same).mp kept⟩
    · rintro ⟨hit, motion, level, duration, start, ranges⟩
      have same := (eq_entryBits_iff f e).mpr ⟨hit, motion, level, duration, start⟩
      exact ⟨same, (entryBits_kept_iff f e same).mpr ranges⟩
  · rw [(fieldsOf_group f old).2.1 group, timingOf_eq_some_iff]
  · rw [(fieldsOf_group f old).2.2.1 group, motionOf_eq_some_iff]
  · rw [(fieldsOf_group f old).2.2.2 group, resistanceOf_eq_some_iff]
  · have kind : BitVec.ofNat 3 (kindCode e.kind) =
        (match e.kind with | .rampCurrent => 1#3 | .holdCurrent => 2#3 | .driveDuty => 3#3 | .fastDecay => 4#3 | .coast => 5#3) := by
      cases e.kind <;> rfl
    rw [entryData, entryByte_eq e.hit e.motion most e.kind, startByte_eq fun v hv => kept_start kept hv, startLow_eq, kind]
    rfl
  · obtain ⟨t9, m4, m5, r4⟩ := groupData_eq kept
    subst ht hr
    simp only [timingData, motionData, resistanceData, windowBounds_eq] at t9 m4 m5 r4 ⊢
    rw [t9, m4, m5, r4]
    exact ⟨rfl, rfl, rfl⟩

end Sys2Proof.Machine
end


section
/-! The acceptance checks as rules on the entries in scan order (R47): what a check that reports the first entry breaking it says. -/

namespace Sys2Proof.Machine

/-! ### The scan -/

/-- The place and the entry at each index of the scan. -/
theorem Shape.scan_getElem? (sh : Shape) (k : Nat) (x : Placed) :
    sh.scan[k]? = some x ↔
      (x.1.1 = .energize ∧ x.1.2 = k ∧ sh.energize[k]? = some x.2) ∨
        (x.1.1 = .release ∧ k = sh.energize.length + x.1.2 ∧ sh.release[x.1.2]? = some x.2) := by
  obtain ⟨⟨q, i⟩, e⟩ := x
  have placed (q : Seq) (es : List PhaseEntry) (k : Nat) :
      (es.zipIdx.map fun e => ((q, e.2), e.1))[k]? = es[k]?.map fun e => ((q, k), e) := by
    simp [List.getElem?_map, Option.map_map, Function.comp_def]
  have length : sh.energizeScan.length = sh.energize.length := by simp [Shape.energizeScan]
  rw [Shape.scan, List.getElem?_append, length]
  by_cases lt : k < sh.energize.length
  · rw [if_pos lt, Shape.energizeScan, placed, Option.map_eq_some_iff]
    constructor
    · rintro ⟨e', he, same⟩
      simp only [Prod.mk.injEq] at same
      obtain ⟨⟨rfl, rfl⟩, rfl⟩ := same
      exact .inl ⟨rfl, rfl, he⟩
    · rintro (⟨rfl, rfl, he⟩ | ⟨_, far, _⟩)
      · exact ⟨e, he, rfl⟩
      · simp only at far; omega
  · rw [if_neg lt, Shape.releaseScan, placed, Option.map_eq_some_iff]
    constructor
    · rintro ⟨e', he, same⟩
      simp only [Prod.mk.injEq] at same
      obtain ⟨⟨rfl, rfl⟩, rfl⟩ := same
      exact .inr ⟨rfl, by simp only; omega, he⟩
    · rintro (⟨_, _, he⟩ | ⟨rfl, far, he⟩)
      · exact absurd (List.getElem?_eq_some_iff.mp he).1 lt
      · simp only at far he
        obtain rfl : i = k - sh.energize.length := by omega
        exact ⟨e, he, rfl⟩

theorem Shape.scan_entries (sh : Shape) : (sh.scan.map fun x => x.2) = sh.energize ++ sh.release := by
  simp [Shape.scan, Shape.energizeScan, Shape.releaseScan, Function.comp_def]

/-- The first entry in scan order that breaks a check. -/
theorem Shape.firstBreak_iff (sh : Shape) (breaks : Seq → Nat → PhaseEntry → Prop) (q : Seq) (i : Nat) :
    sh.FirstBreak breaks q i ↔
      ∃ k e, sh.scan[k]? = some ((q, i), e) ∧ breaks q i e ∧
        ∀ (m : Nat) (x : Placed), m < k → sh.scan[m]? = some x → ¬ breaks x.1.1 x.1.2 x.2 := by
  simp only [Shape.scan_getElem?]
  constructor
  · rintro ⟨⟨e, here, broken⟩, before, energize⟩
    cases q with
    | energize =>
      refine ⟨i, e, .inl ⟨rfl, rfl, here⟩, broken, ?_⟩
      rintro m ⟨⟨_, _⟩, e'⟩ lt (⟨rfl, rfl, there⟩ | ⟨_, far, _⟩)
      · exact before _ e' lt there
      · have := (List.getElem?_eq_some_iff.mp here).1
        simp only [Shape.seqOf] at this far
        omega
    | release =>
      refine ⟨sh.energize.length + i, e, .inr ⟨rfl, rfl, here⟩, broken, ?_⟩
      rintro m ⟨⟨_, j⟩, e'⟩ lt (⟨rfl, rfl, there⟩ | ⟨rfl, far, there⟩)
      · exact energize rfl _ e' there
      · exact before j e' (by simp only at far; omega) there
  · rintro ⟨k, e, ⟨rfl, rfl, here⟩ | ⟨rfl, rfl, here⟩, broken, before⟩
    · exact ⟨⟨e, here, broken⟩, fun j e' lt there => before j ((.energize, j), e') lt (.inl ⟨rfl, rfl, there⟩), nofun⟩
    · refine ⟨⟨e, here, broken⟩, fun j e' lt there => ?_, fun _ j e' there => ?_⟩
      · exact before (sh.energize.length + j) ((.release, j), e') (by omega) (.inr ⟨rfl, rfl, there⟩)
      · have := (List.getElem?_eq_some_iff.mp there).1
        exact before j ((.energize, j), e') (by omega) (.inl ⟨rfl, rfl, there⟩)

/-- The first entry of a scan that breaks a rule, where the rule speaks of the entries scanned before it too. -/
def firstAt (rule : List PhaseEntry → Placed → Bool) : List PhaseEntry → List Placed → Judgment
  | _, [] => none
  | before, x :: rest => if rule before x then some (some x.1) else firstAt rule (before ++ [x.2]) rest

theorem firstAt_append (rule : List PhaseEntry → Placed → Bool) (l l' : List Placed) (before : List PhaseEntry) :
    firstAt rule before (l ++ l') = (firstAt rule before l).or (firstAt rule (before ++ l.map fun x => x.2) l') := by
  induction l generalizing before with
  | nil => simp [firstAt]
  | cons x l ih =>
    simp only [List.cons_append, firstAt, List.map_cons]
    split
    · rfl
    · rw [ih, List.append_assoc, List.singleton_append]

/-- A rule that a scan meets only where another does is the other. -/
theorem firstAt_congr {rule rule' : List PhaseEntry → Placed → Bool} {l : List Placed} {before : List PhaseEntry}
    (h : ∀ b, ∀ x ∈ l, rule b x = rule' b x) : firstAt rule before l = firstAt rule' before l := by
  induction l generalizing before with
  | nil => rfl
  | cons x l ih =>
    simp only [firstAt, h before x (by simp)]
    rw [ih fun b y hy => h b y (List.mem_cons_of_mem _ hy)]

/-- Where the rule speaks of no entry before, the scan is a plain search. -/
theorem firstAt_const (b : Placed → Bool) (l : List Placed) (before : List PhaseEntry) :
    firstAt (fun _ => b) before l = failAtFirst l b := by
  induction l generalizing before with
  | nil => rfl
  | cons x l ih =>
    rw [firstAt, failAtFirst, List.find?_cons]
    cases hb : b x
    · exact ih _
    · rfl

theorem firstAt_eq_some_iff (rule : List PhaseEntry → Placed → Bool) (l : List Placed) (before : List PhaseEntry)
    (p : Option Position) :
    firstAt rule before l = some p ↔
      ∃ (k : Nat) (x : Placed), l[k]? = some x ∧ p = some x.1 ∧ rule (before ++ (l.take k).map fun y => y.2) x = true ∧
        ∀ (m : Nat) (y : Placed), m < k → l[m]? = some y → ¬ rule (before ++ (l.take m).map fun y => y.2) y = true := by
  induction l generalizing before with
  | nil => simp [firstAt]
  | cons x l ih =>
    rw [firstAt]
    split
    next broken =>
      constructor
      · rintro ⟨⟩
        exact ⟨0, x, rfl, rfl, by simpa using broken, nofun⟩
      · rintro ⟨k, y, here, rfl, hy, first⟩
        cases k with
        | zero => cases here; rfl
        | succ k => exact absurd (by simpa using broken) (first 0 x (by omega) rfl)
    next met =>
      rw [ih]
      constructor
      · rintro ⟨k, y, here, rfl, hy, first⟩
        refine ⟨k + 1, y, here, rfl, by simpa using hy, fun m z lt there => ?_⟩
        cases m with
        | zero => cases there; simpa using met
        | succ m => simpa using first m z (by omega) there
      · rintro ⟨k, y, here, rfl, hy, first⟩
        cases k with
        | zero => cases here; exact absurd (by simpa using hy) met
        | succ k =>
          refine ⟨k, y, here, rfl, by simpa using hy, fun m z lt there => ?_⟩
          simpa using first (m + 1) z (by omega) there

/-- A search of the scan by a rule reports the first entry that breaks the check, where the rule says of each entry that it does. -/
theorem Shape.firstAt_eq_some_iff {sh : Shape} {rule : List PhaseEntry → Placed → Bool} {breaks : Seq → Nat → PhaseEntry → Prop}
    (energize : ∀ (i : Nat) (e : PhaseEntry), sh.energize[i]? = some e →
      (rule (sh.energize.take i) ((.energize, i), e) = true ↔ breaks .energize i e))
    (release : ∀ (i : Nat) (e : PhaseEntry), sh.release[i]? = some e →
      (rule (sh.energize ++ sh.release.take i) ((.release, i), e) = true ↔ breaks .release i e))
    (p : Option Position) :
    firstAt rule [] sh.scan = some p ↔ ∃ q i, p = some (q, i) ∧ sh.FirstBreak breaks q i := by
  -- the rule at an index of the scan
  have judged : ∀ (k : Nat) (x : Placed), sh.scan[k]? = some x →
      (rule ([] ++ (sh.scan.take k).map fun y => y.2) x = true ↔ breaks x.1.1 x.1.2 x.2) := by
    rintro k ⟨⟨q, i⟩, e⟩ at_
    rw [List.nil_append, List.map_take, sh.scan_entries]
    rcases (sh.scan_getElem? k _).mp at_ with ⟨rfl, rfl, here⟩ | ⟨rfl, rfl, here⟩
    · have lt := (List.getElem?_eq_some_iff.mp here).1
      rw [List.take_append_of_le_length (Nat.le_of_lt lt)]
      exact energize i e here
    · rw [List.take_length_add_append]
      exact release i e here
  simp only [Machine.firstAt_eq_some_iff, Shape.firstBreak_iff]
  constructor
  · rintro ⟨k, ⟨⟨q, i⟩, e⟩, at_, rfl, hr, first⟩
    exact ⟨q, i, rfl, k, e, at_, (judged k _ at_).mp hr, fun m y lt there hb => first m y lt there ((judged m y there).mpr hb)⟩
  · rintro ⟨q, i, rfl, k, e, at_, hb, first⟩
    exact ⟨k, ((q, i), e), at_, rfl, (judged k _ at_).mpr hb, fun m y lt there hr => first m y lt there ((judged m y there).mp hr)⟩

theorem Shape.reportsFirst_firstAt {sh : Shape} {rule : List PhaseEntry → Placed → Bool} {breaks : Seq → Nat → PhaseEntry → Prop}
    (energize : ∀ (i : Nat) (e : PhaseEntry), sh.energize[i]? = some e →
      (rule (sh.energize.take i) ((.energize, i), e) = true ↔ breaks .energize i e))
    (release : ∀ (i : Nat) (e : PhaseEntry), sh.release[i]? = some e →
      (rule (sh.energize ++ sh.release.take i) ((.release, i), e) = true ↔ breaks .release i e)) :
    sh.ReportsFirst (firstAt rule [] sh.scan) breaks := by
  have found := Shape.firstAt_eq_some_iff energize release
  refine ⟨fun h => ?_, fun q i => ?_⟩
  · obtain ⟨_, _, same, _⟩ := (found none).mp h
    cases same
  · rw [found]
    constructor
    · rintro ⟨_, _, same, first⟩
      cases same
      exact first
    · exact fun first => ⟨q, i, rfl, first⟩

/-- A plain search of the scan. -/
theorem Shape.reportsFirst_failAtFirst {sh : Shape} {b : Placed → Bool} {breaks : Seq → Nat → PhaseEntry → Prop}
    (h : ∀ (q : Seq) (i : Nat) (e : PhaseEntry), (sh.seqOf q)[i]? = some e → (b ((q, i), e) = true ↔ breaks q i e)) :
    sh.ReportsFirst (failAtFirst sh.scan b) breaks := by
  rw [← firstAt_const b sh.scan []]
  exact Shape.reportsFirst_firstAt (fun i e => h .energize i e) (fun i e => h .release i e)

/-- A search of the energize sequence alone, by a rule that no release entry breaks. -/
theorem Shape.reportsFirst_energizeScan {sh : Shape} {rule : List PhaseEntry → Placed → Bool}
    {breaks : Seq → Nat → PhaseEntry → Prop}
    (energize : ∀ (i : Nat) (e : PhaseEntry), sh.energize[i]? = some e →
      (rule (sh.energize.take i) ((.energize, i), e) = true ↔ breaks .energize i e))
    (release : ∀ (i : Nat) (e : PhaseEntry), ¬ breaks .release i e) :
    sh.ReportsFirst (firstAt rule [] sh.energizeScan) breaks := by
  have restricted : firstAt (fun before x => decide (x.1.1 = .energize) && rule before x) [] sh.scan =
      firstAt rule [] sh.energizeScan := by
    have none_in_release : ∀ before, firstAt (fun before x => decide (x.1.1 = .energize) && rule before x) before sh.releaseScan =
        none := fun before => by
      rw [firstAt_congr (rule' := fun _ _ => false), firstAt_const (fun _ => false)]
      · simp [failAtFirst]
      · intro b x hx
        obtain ⟨e, _, rfl⟩ := List.mem_map.mp hx
        rfl
    rw [Shape.scan, firstAt_append, none_in_release, Option.or_none]
    refine firstAt_congr fun b x hx => ?_
    obtain ⟨e, _, rfl⟩ := List.mem_map.mp hx
    rfl
  rw [← restricted]
  refine Shape.reportsFirst_firstAt (fun i e here => ?_) fun i e _ => ?_
  · simpa using energize i e here
  · simpa using release i e

/-- A check that reports the first entry breaking it is met where none does. -/
theorem Shape.ReportsFirst.eq_none_iff {sh : Shape} {judged : Judgment} {breaks : Seq → Nat → PhaseEntry → Prop}
    (h : sh.ReportsFirst judged breaks) :
    judged = none ↔ ∀ q i e, (sh.seqOf q)[i]? = some e → ¬ breaks q i e := by
  classical
  obtain ⟨positioned, first⟩ := h
  constructor
  · intro met q i e at_ broken
    have no_first : ∀ q i, ¬ sh.FirstBreak breaks q i := fun q i hb => by
      have := (first q i).mpr hb
      rw [met] at this
      cases this
    -- the first entry of a sequence that breaks the check
    have least : ∀ q, (∃ i e, (sh.seqOf q)[i]? = some e ∧ breaks q i e) →
        ∃ i, (∃ e, (sh.seqOf q)[i]? = some e ∧ breaks q i e) ∧ ∀ j e, j < i → (sh.seqOf q)[j]? = some e → ¬ breaks q j e := by
      rintro q ex
      exact ⟨Nat.find ex, Nat.find_spec ex, fun j e lt there hb => Nat.find_min ex lt ⟨e, there, hb⟩⟩
    by_cases energize : ∃ i e, (sh.seqOf .energize)[i]? = some e ∧ breaks .energize i e
    · obtain ⟨i, here, before⟩ := least .energize energize
      exact no_first .energize i ⟨here, before, nofun⟩
    · have none_ : ∀ j e, sh.energize[j]? = some e → ¬ breaks .energize j e := fun j e there hb => energize ⟨j, e, there, hb⟩
      cases q with
      | energize => exact none_ i e at_ broken
      | release =>
        obtain ⟨i, here, before⟩ := least .release ⟨i, e, at_, broken⟩
        exact no_first .release i ⟨here, before, fun _ => none_⟩
  · intro met
    match judged with
    | none => rfl
    | some none => exact absurd rfl positioned
    | some (some (q, i)) =>
      obtain ⟨⟨e, at_, broken⟩, _⟩ := (first q i).mp rfl
      exact absurd broken (met q i e at_)

/-- What holds of no entry of either sequence. -/
theorem Shape.forall_entries_iff (sh : Shape) (P : Seq → Nat → PhaseEntry → Prop) :
    (∀ q i e, (sh.seqOf q)[i]? = some e → P q i e) ↔
      (∀ i e, sh.energize[i]? = some e → P .energize i e) ∧ ∀ i e, sh.release[i]? = some e → P .release i e :=
  ⟨fun h => ⟨h .energize, h .release⟩, fun h q => by cases q; exacts [h.1, h.2]⟩

/-! ### The numbered checks -/

/-- Judged checks numbered from a number on. -/
def numbered (n : Nat) : List Judgment → List (Nat × Judgment)
  | [] => []
  | j :: js => (n, j) :: numbered (n + 1) js

theorem firstFailure_numbered_iff (js : List Judgment) (n m : Nat) (pos : Option Position) :
    firstFailure (numbered n js) = .fail m pos ↔
      ∃ before after, js = before ++ some pos :: after ∧ (∀ x ∈ before, x = none) ∧ m = before.length + n := by
  induction js generalizing n with
  | nil => simp [numbered, firstFailure]
  | cons j js ih =>
    cases j with
    | some p =>
      simp only [numbered, firstFailure, CheckResult.fail.injEq]
      constructor
      · rintro ⟨rfl, rfl⟩
        exact ⟨[], js, rfl, nofun, by simp⟩
      · rintro ⟨before, after, split, met, rfl⟩
        cases before with
        | nil => cases split; exact ⟨by simp, rfl⟩
        | cons x before => cases split; exact absurd (met (some p) (by simp)) nofun
    | none =>
      rw [numbered, firstFailure, ih]
      constructor
      · rintro ⟨before, after, rfl, met, rfl⟩
        refine ⟨none :: before, after, rfl, ?_, by simp only [List.length_cons]; omega⟩
        simpa using met
      · rintro ⟨before, after, split, met, rfl⟩
        cases before with
        | nil => cases split
        | cons x before =>
          obtain ⟨rfl, rfl⟩ := List.cons.inj split
          exact ⟨before, after, rfl, fun x hx => met x (List.mem_cons_of_mem _ hx), by simp only [List.length_cons]; omega⟩

theorem judgments_eq (sh : Shape) :
    judgments sh =
      numbered 1
        [checkA1 sh, checkA2 sh, checkA3 sh, checkA4 sh, checkA5 sh, checkA6 sh, checkA7 sh, checkA8 sh, checkA9 sh, checkA10 sh,
          checkA11 sh] := rfl

end Sys2Proof.Machine
end


section
/-! The eleven acceptance checks, each by its rule on the entries in scan order (R48 to R58). -/

namespace Sys2Proof.Machine

/-! ### The checks that judge an entry by itself -/

theorem reportsFirst_checkA2 (sh : Shape) :
    sh.ReportsFirst (checkA2 sh) (fun q _ e =>
      (q = .energize ∧ (e.kind = .fastDecay ∨ e.kind = .coast)) ∨
        (q = .release ∧ (e.kind = .rampCurrent ∨ e.kind = .holdCurrent ∨ e.kind = .driveDuty))) := by
  refine Shape.reportsFirst_failAtFirst fun q i e _ => ?_
  cases q <;> cases hk : e.kind <;> simp [PhaseKind.drives]

theorem reportsFirst_checkA3 (sh : Shape) :
    sh.ReportsFirst (checkA3 sh) (fun q i e =>
      e.duration = 0 ∧ (q = .release ∨ i + 1 ≠ sh.energize.length ∨ (e.kind ≠ .holdCurrent ∧ e.kind ≠ .driveDuty))) := by
  refine Shape.reportsFirst_failAtFirst fun q i e _ => ?_
  cases q <;> simp

theorem overLimit_iff (e : PhaseEntry) :
    overLimit e = true ↔
      (e.kind = .rampCurrent ∧ (400 < e.level ∨ ∃ v, e.start = some v ∧ 400 < v)) ∨
        (e.kind = .holdCurrent ∧ (if e.duration = 0 then 300 else 400) < e.level) ∨
        (e.kind = .driveDuty ∧ e.duration = 0 ∧ 192 < e.level) := by
  cases hk : e.kind <;> simp [overLimit, hk, Option.any_eq_true]

theorem reportsFirst_checkA4 (sh : Shape) :
    sh.ReportsFirst (checkA4 sh) (fun _ _ e =>
      (e.kind = .rampCurrent ∧ (400 < e.level ∨ ∃ v, e.start = some v ∧ 400 < v)) ∨
        (e.kind = .holdCurrent ∧ (if e.duration = 0 then 300 else 400) < e.level) ∨
        (e.kind = .driveDuty ∧ e.duration = 0 ∧ 192 < e.level)) :=
  Shape.reportsFirst_failAtFirst fun _ _ e _ => overLimit_iff e

/-! ### The ramp's start level (R52) -/

theorem afterDuty_iff (sh : Shape) (i : Nat) :
    (decide (i = 0) || afterDuty sh i) = true ↔ i = 0 ∨ ∃ x, sh.energize[i - 1]? = some x ∧ x.kind = .driveDuty := by
  cases i with
  | zero => simp
  | succ k => simp [afterDuty, Option.any_eq_true]

theorem reportsFirst_checkA5 (sh : Shape) :
    sh.ReportsFirst (checkA5 sh) (fun q i e =>
      q = .energize ∧ e.kind = .rampCurrent ∧ e.start = none ∧
        (i = 0 ∨ ∃ x, sh.energize[i - 1]? = some x ∧ x.kind = .driveDuty)) := by
  rw [checkA5, ← firstAt_const _ _ []]
  refine Shape.reportsFirst_energizeScan (fun i e _ => ?_) fun i e h => nomatch h.1
  rw [Bool.and_eq_true, Bool.and_eq_true, afterDuty_iff, decide_eq_true_eq, Option.isNone_iff_eq_none]
  tauto

/-! ### The HIT mark (R53) -/

/-- The rule of A6: a HIT-marked entry that is badly placed or follows another. -/
def hitRule (before : List PhaseEntry) (x : Placed) : Bool :=
  x.2.hit && (badHit x.2 || before.any fun e => e.hit)

/-- After a HIT-marked entry the next one is reported. -/
theorem firstAt_hitRule_of_any {before : List PhaseEntry} (l : List Placed) (h : (before.any fun e => e.hit) = true) :
    firstAt hitRule before l = (l.filter fun x => x.2.hit).head?.map fun x => some x.1 := by
  induction l generalizing before with
  | nil => rfl
  | cons x l ih =>
    have kept : ((before ++ [x.2]).any fun e => e.hit) = true := by simp [List.any_append, h]
    rw [firstAt, ih kept]
    cases hx : x.2.hit <;> simp [hitRule, h, hx]

theorem checkA6_eq (sh : Shape) : checkA6 sh = firstAt hitRule [] sh.scan := by
  have scanned : ∀ (l : List Placed) (before : List PhaseEntry), (before.any fun e => e.hit) = false →
      firstAt hitRule before l =
        match l.filter fun x => x.2.hit with
        | [] => none
        | x :: rest =>
          if badHit x.2 then some (some x.1)
          else match rest with
            | [] => none
            | y :: _ => some (some y.1) := by
    intro l
    induction l with
    | nil => intros; rfl
    | cons x l ih =>
      intro before h
      rw [firstAt]
      cases hx : x.2.hit with
      | false =>
        rw [ih _ (by simp [List.any_append, h, hx])]
        simp [hitRule, hx]
      | true =>
        rw [firstAt_hitRule_of_any l (by simp [List.any_append, hx])]
        cases hb : badHit x.2 <;> cases hl : l.filter fun x => x.2.hit <;> simp [hitRule, hx, h, hb, hl]
  exact (scanned sh.scan [] rfl).symm

theorem reportsFirst_checkA6 (sh : Shape) :
    sh.ReportsFirst (checkA6 sh) (fun q i e =>
      e.hit = true ∧
        ((∃ j x, j < i ∧ (sh.seqOf q)[j]? = some x ∧ x.hit = true) ∨
          (q = .release ∧ ∃ x ∈ sh.energize, x.hit = true) ∨
          (e.kind ≠ .rampCurrent ∧ e.kind ≠ .holdCurrent) ∨ e.duration = 0)) := by
  rw [checkA6_eq]
  have bad (e : PhaseEntry) : badHit e = true ↔ (e.kind ≠ .rampCurrent ∧ e.kind ≠ .holdCurrent) ∨ e.duration = 0 := by
    simp [badHit]
  have earlier (es : List PhaseEntry) (i : Nat) :
      ((es.take i).any fun e => e.hit) = true ↔ ∃ j x, j < i ∧ es[j]? = some x ∧ x.hit = true := by
    simp only [List.any_eq_true, List.mem_iff_getElem?, List.getElem?_take]
    constructor
    · rintro ⟨x, ⟨j, at_⟩, hx⟩
      split at at_
      · exact ⟨j, x, ‹_›, at_, hx⟩
      · cases at_
    · rintro ⟨j, x, lt, at_, hx⟩
      exact ⟨x, ⟨j, by rw [if_pos lt, at_]⟩, hx⟩
  refine Shape.reportsFirst_firstAt (fun i e _ => ?_) fun i e _ => ?_
  · simp only [hitRule, Bool.and_eq_true, Bool.or_eq_true, bad, earlier, Shape.seqOf, reduceCtorEq, false_and, false_or]
    exact and_congr_right fun _ => or_comm
  · simp only [hitRule, Bool.and_eq_true, Bool.or_eq_true, List.any_append, bad, earlier, Shape.seqOf, List.any_eq_true, true_and]
    exact and_congr_right fun _ => by rw [or_comm, or_comm (b := ∃ j x, j < i ∧ sh.release[j]? = some x ∧ x.hit = true), or_assoc]

/-! ### The MOTION marks (R54) -/

/-- An unmarked entry follows a marked one. -/
def runEnded (es : List PhaseEntry) : Bool := (es.dropWhile fun e => !e.motion).any fun e => !e.motion

theorem runEnded_iff (es : List PhaseEntry) :
    runEnded es = true ↔
      ∃ (j k : Nat) (x y : PhaseEntry), j < k ∧ es[j]? = some x ∧ x.motion = true ∧ es[k]? = some y ∧ y.motion = false := by
  induction es with
  | nil => simp [runEnded]
  | cons e es ih =>
    cases he : e.motion with
    | true =>
      have ended : runEnded (e :: es) = es.any fun e => !e.motion := by simp [runEnded, he]
      rw [ended, List.any_eq_true]
      constructor
      · rintro ⟨y, hy, unmarked⟩
        obtain ⟨k, at_⟩ := List.mem_iff_getElem?.mp hy
        exact ⟨0, k + 1, e, y, by omega, rfl, he, at_, by simpa using unmarked⟩
      · rintro ⟨j, k, x, y, lt, _, _, at_, unmarked⟩
        cases k with
        | zero => omega
        | succ k => exact ⟨y, List.mem_of_getElem? at_, by simp [unmarked]⟩
    | false =>
      have skipped : runEnded (e :: es) = runEnded es := by simp [runEnded, he]
      rw [skipped, ih]
      constructor
      · rintro ⟨j, k, x, y, lt, hj, hx, hk, hy⟩
        exact ⟨j + 1, k + 1, x, y, by omega, hj, hx, hk, hy⟩
      · rintro ⟨j, k, x, y, lt, hj, hx, hk, hy⟩
        cases j with
        | zero => cases hj; rw [he] at hx; cases hx
        | succ j =>
          cases k with
          | zero => omega
          | succ k => exact ⟨j, k, x, y, by omega, hj, hx, hk, hy⟩

theorem runEnded_concat (es : List PhaseEntry) (e : PhaseEntry) :
    runEnded (es ++ [e]) = (runEnded es || ((es.any fun e => e.motion) && !e.motion)) := by
  induction es with
  | nil => cases he : e.motion <;> simp [runEnded, he]
  | cons e' es ih =>
    cases he : e'.motion with
    | true => simp [runEnded, he]
    | false =>
      have skipped (es : List PhaseEntry) : runEnded (e' :: es) = runEnded es := by simp [runEnded, he]
      rw [List.cons_append, skipped, skipped, ih, List.any_cons, he, Bool.false_or]

/-- The rule of A7 with a threshold: a marked entry that an unmarked one separates from the run's beginning, or one that no
sequence but the energize sequence may hold. -/
def motionRule (before : List PhaseEntry) (x : Placed) : Bool :=
  x.2.motion && (decide (x.1.1 = .release) || runEnded before)

/-- A marked energize entry breaks the rule once the run has ended. -/
theorem motionRule_energize {before : List PhaseEntry} {x : Placed} (h : x.1.1 = .energize) :
    motionRule before x = (x.2.motion && runEnded before) := by
  simp [motionRule, h]

theorem brokenRun_eq (sh : Shape) : brokenRun sh = firstAt motionRule [] sh.energizeScan := by
  have placed : ∀ x ∈ sh.energizeScan, x.1.1 = Seq.energize := fun x hx => by
    obtain ⟨e, _, rfl⟩ := List.mem_map.mp hx
    rfl
  have step (x : Placed) (l : List Placed) (before : List PhaseEntry) (hx : x.1.1 = .energize) :
      firstAt motionRule before (x :: l) =
        if x.2.motion && runEnded before then some (some x.1) else firstAt motionRule (before ++ [x.2]) l := by
    rw [firstAt, motionRule_energize hx]
  -- once the run has ended every marked entry breaks it
  have after : ∀ (l : List Placed) (before : List PhaseEntry), (∀ x ∈ l, x.1.1 = .energize) → runEnded before = true →
      firstAt motionRule before l = failAtFirst l fun x => x.2.motion := by
    intro l
    induction l with
    | nil => intros; rfl
    | cons x l ih =>
      intro before placed ended
      obtain ⟨hx, rest⟩ := List.forall_mem_cons.mp placed
      rw [step x l before hx, ih _ rest (by rw [runEnded_concat, ended, Bool.true_or])]
      cases marked : x.2.motion <;> simp [failAtFirst, marked, ended]
  -- in the run the marked entries are passed over
  have during : ∀ (l : List Placed) (before : List PhaseEntry), (∀ x ∈ l, x.1.1 = .energize) → runEnded before = false →
      (before.any fun e => e.motion) = true →
      firstAt motionRule before l = failAtFirst (l.dropWhile fun x => x.2.motion) fun x => x.2.motion := by
    intro l
    induction l with
    | nil => intros; rfl
    | cons x l ih =>
      intro before placed going begun
      obtain ⟨hx, rest⟩ := List.forall_mem_cons.mp placed
      rw [step x l before hx, going, Bool.and_false, if_neg Bool.false_ne_true, List.dropWhile_cons]
      cases marked : x.2.motion
      · rw [after l _ rest (by rw [runEnded_concat, begun, marked]; simp)]
        simp [failAtFirst, marked]
      · rw [ih _ rest (by rw [runEnded_concat, going, marked]; simp) (by rw [List.any_append, begun, Bool.true_or])]
        simp
  -- before the run the unmarked ones are
  have waiting : ∀ (l : List Placed) (before : List PhaseEntry), (∀ x ∈ l, x.1.1 = .energize) → runEnded before = false →
      (before.any fun e => e.motion) = false →
      firstAt motionRule before l =
        failAtFirst ((l.dropWhile fun x => !x.2.motion).dropWhile fun x => x.2.motion) fun x => x.2.motion := by
    intro l
    induction l with
    | nil => intros; rfl
    | cons x l ih =>
      intro before placed going none_marked
      obtain ⟨hx, rest⟩ := List.forall_mem_cons.mp placed
      rw [step x l before hx, going, Bool.and_false, if_neg Bool.false_ne_true, List.dropWhile_cons]
      have still : runEnded (before ++ [x.2]) = false := by rw [runEnded_concat, going, none_marked]; rfl
      cases marked : x.2.motion
      · rw [ih _ rest still (by simp [List.any_append, none_marked, marked])]
        simp
      · rw [during l _ rest still (by simp [List.any_append, marked])]
        simp [marked]
  exact (waiting sh.energizeScan [] placed rfl rfl).symm

/-- With a dip threshold A7 reports the first entry that breaks its rule, and no position where no entry is marked. -/
theorem checkA7_of_threshold {sh : Shape} {t : Nat} (h : sh.fields.dipThreshold = some t) :
    checkA7 sh = (firstAt motionRule [] sh.scan).or (failWithNone !sh.energize.any fun e => e.motion) := by
  have in_release : ∀ before, firstAt motionRule before sh.releaseScan = failAtFirst sh.releaseScan fun x => x.2.motion := by
    intro before
    rw [← firstAt_const _ _ before]
    refine firstAt_congr fun b x hx => ?_
    obtain ⟨e, _, rfl⟩ := List.mem_map.mp hx
    simp [motionRule]
  rw [Shape.scan, firstAt_append, in_release, ← brokenRun_eq]
  simp only [checkA7, h]
  cases brokenRun sh with
  | some p => rfl
  | none => cases failAtFirst sh.releaseScan fun x => x.2.motion <;> rfl

theorem reportsFirst_checkA7_of_none {sh : Shape} (h : sh.fields.dipThreshold = none) :
    sh.ReportsFirst (checkA7 sh) (fun _ _ e => e.motion = true) := by
  have plain : checkA7 sh = failAtFirst sh.scan fun e => e.2.motion := by simp only [checkA7, h]
  rw [plain]
  exact Shape.reportsFirst_failAtFirst fun _ _ _ _ => Iff.rfl

/-- What breaks A7's rule: a marked entry of the release sequence, or one after the run's end. -/
theorem reportsFirst_motionRule (sh : Shape) :
    sh.ReportsFirst (firstAt motionRule [] sh.scan)
      (fun q i e => e.motion = true ∧
        (q = .release ∨ ∃ j k x y, j < k ∧ k < i ∧ sh.energize[j]? = some x ∧ x.motion = true ∧
          sh.energize[k]? = some y ∧ y.motion = false)) := by
  refine Shape.reportsFirst_firstAt (fun i e _ => ?_) fun i e _ => by simp [motionRule]
  rw [motionRule_energize rfl, Bool.and_eq_true, runEnded_iff]
  refine and_congr_right fun _ => ?_
  simp only [reduceCtorEq, false_or, List.getElem?_take]
  constructor
  · rintro ⟨j, k, x, y, lt, hj, hx, hk, hy⟩
    split at hk
    next below =>
      rw [if_pos (by omega)] at hj
      exact ⟨j, k, x, y, lt, below, hj, hx, hk, hy⟩
    next => cases hk
  · rintro ⟨j, k, x, y, lt, below, hj, hx, hk, hy⟩
    exact ⟨j, k, x, y, lt, by rw [if_pos (by omega), hj], hx, by rw [if_pos below, hk], hy⟩

theorem checkA7_positions {sh : Shape} (h : sh.fields.dipThreshold.isSome = true) :
    (∀ q i, checkA7 sh = some (some (q, i)) ↔ sh.FirstBreak
      (fun q i e => e.motion = true ∧
        (q = .release ∨ ∃ j k x y, j < k ∧ k < i ∧ sh.energize[j]? = some x ∧ x.motion = true ∧
          sh.energize[k]? = some y ∧ y.motion = false)) q i) ∧
    (checkA7 sh = some none ↔ ∀ e ∈ sh.energize ++ sh.release, e.motion = false) := by
  obtain ⟨t, ht⟩ := Option.isSome_iff_exists.mp h
  have reports := reportsFirst_motionRule sh
  have met := reports.eq_none_iff
  obtain ⟨positioned, first⟩ := reports
  rw [checkA7_of_threshold ht]
  constructor
  · intro q i
    rw [← first]
    cases firstAt motionRule [] sh.scan with
    | some p => rfl
    | none => cases (sh.energize.any fun e => e.motion) <;> simp [failWithNone]
  · cases found : firstAt motionRule [] sh.scan with
    | some p =>
      have some_marked : ¬ ∀ e ∈ sh.energize ++ sh.release, e.motion = false := fun unmarked => by
        rw [met.mpr fun q i e at_ broken => ?_] at found
        · cases found
        · have mem : e ∈ sh.energize ++ sh.release :=
            List.mem_append.mpr (match q with
              | .energize => .inl (List.mem_of_getElem? at_)
              | .release => .inr (List.mem_of_getElem? at_))
          rw [unmarked e mem] at broken
          cases broken.1
      refine iff_of_false (fun same => positioned (found.trans ?_)) some_marked
      exact same
    | none =>
      have release : ∀ e ∈ sh.release, e.motion = false := fun e he => by
        obtain ⟨i, at_⟩ := List.mem_iff_getElem?.mp he
        exact Bool.eq_false_iff.mpr fun marked => met.mp found .release i e at_ ⟨marked, .inl rfl⟩
      rw [Option.none_or, failWithNone_eq_ite (P := ∀ e ∈ sh.energize, e.motion = false) (by simp)]
      constructor
      · intro failed e he
        by_cases unmarked : ∀ e ∈ sh.energize, e.motion = false
        · exact (List.mem_append.mp he).elim (unmarked e) (release e)
        · rw [if_neg unmarked] at failed; cases failed
      · exact fun unmarked => if_pos fun e he => unmarked e (List.mem_append_left _ he)

theorem brokenRun_eq_none_iff (sh : Shape) :
    brokenRun sh = none ↔
      ∀ e ∈ (sh.energize.dropWhile fun e => !e.motion).dropWhile fun e => e.motion, e.motion = false := by
  have entries : (sh.energizeScan.map fun x => x.2) = sh.energize := by
    simp [Shape.energizeScan, Function.comp_def]
  conv_rhs => rw [← entries, List.dropWhile_map, List.dropWhile_map]
  rw [List.forall_mem_map]
  simp [brokenRun, failAtFirst, Function.comp_def]

/-- The marked entries are one run: those after the unmarked head and the run are unmarked (R54). -/
theorem oneRun_iff (es : List PhaseEntry) :
    ((∀ e ∈ (es.dropWhile fun e => !e.motion).dropWhile fun e => e.motion, e.motion = false) ∧ ∃ e ∈ es, e.motion = true) ↔
      ∃ before run after, es = before ++ run ++ after ∧ run ≠ [] ∧ (∀ e ∈ run, e.motion = true) ∧
        ∀ e ∈ before ++ after, e.motion = false := by
  constructor
  · rintro ⟨unmarked, marked, mem, hm⟩
    refine ⟨es.takeWhile fun e => !e.motion, (es.dropWhile fun e => !e.motion).takeWhile fun e => e.motion,
      (es.dropWhile fun e => !e.motion).dropWhile fun e => e.motion, ?_, ?_, ?_, ?_⟩
    · rw [List.append_assoc, List.takeWhile_append_dropWhile, List.takeWhile_append_dropWhile]
    · have first : es.dropWhile (fun e => !e.motion) ≠ [] := fun none_ => by
        have := List.dropWhile_eq_nil_iff.mp none_ marked mem
        simp [hm] at this
      obtain ⟨e, rest, split⟩ := List.exists_cons_of_ne_nil first
      have he := List.head_dropWhile_not (p := fun e : PhaseEntry => !e.motion) first
      simp only [split, List.head_cons, Bool.not_eq_false'] at he
      simp [split, he]
    · exact fun e he => List.mem_takeWhile_imp he
    · intro e he
      rcases List.mem_append.mp he with head | tail
      · simpa using List.mem_takeWhile_imp head
      · exact unmarked e tail
  · rintro ⟨before, run, after, rfl, some_marked, marked, unmarked⟩
    have head : ∀ e ∈ before, (!e.motion) = true := fun e he => by simp [unmarked e (List.mem_append_left _ he)]
    have tail : ∀ e ∈ after, e.motion = false := fun e he => unmarked e (List.mem_append_right _ he)
    obtain ⟨e, rest, rfl⟩ := List.exists_cons_of_ne_nil some_marked
    refine ⟨fun x hx => ?_, e, by simp, marked e (by simp)⟩
    rw [List.append_assoc, List.dropWhile_append_of_pos head, List.cons_append,
      List.dropWhile_cons_of_neg (by simp [marked e]), ← List.cons_append, List.dropWhile_append_of_pos marked] at hx
    exact tail x (List.dropWhile_subset _ hx)

/-! ### The fixed energize time (R57) -/

/-- The rule of A10: the running sum of the durations passes its limit with the entry. -/
def sumRule (before : List PhaseEntry) (x : Placed) : Bool :=
  decide (65535 < (before.map fun e => e.duration).sum + x.2.duration)

theorem checkA10_eq (sh : Shape) : checkA10 sh = firstAt sumRule [] sh.energizeScan := by
  have passes : ∀ (l : List Placed) (before : List PhaseEntry),
      sumPasses (before.map fun e => e.duration).sum l = firstAt sumRule before l := by
    intro l
    induction l with
    | nil => intros; rfl
    | cons x l ih =>
      intro before
      have next := ih (before ++ [x.2])
      rw [List.map_append, List.sum_append, List.map_singleton, List.sum_singleton] at next
      simp [sumPasses, firstAt, sumRule, next, Config.max16]
  exact passes sh.energizeScan []

theorem reportsFirst_checkA10 (sh : Shape) :
    sh.ReportsFirst (checkA10 sh) (fun q i _ =>
      q = .energize ∧ 65535 < ((sh.energize.take (i + 1)).map fun e => e.duration).sum) := by
  rw [checkA10_eq]
  refine Shape.reportsFirst_energizeScan (fun i e at_ => ?_) fun i e h => nomatch h.1
  rw [List.take_add_one, at_]
  simp [sumRule]

/-! ### The checks without a position -/

theorem checkA1_eq_ite (sh : Shape) :
    checkA1 sh = if 1 ≤ sh.energize.length ∧ sh.energize.length ≤ 6 then none else some none := by
  rw [checkA1, failWithNone_eq_ite (P := ¬ (1 ≤ sh.energize.length ∧ sh.energize.length ≤ 6)), ite_not]
  cases sh.energize <;> simp [Config.maxEnergize]

theorem checkA11_eq_ite (sh : Shape) :
    checkA11 sh =
      if (∀ e ∈ sh.energize, e.duration ≠ 0) ∧ (sh.energize.map fun e => e.duration).sum < sh.fields.minOn then some none
        else none := by
  refine failWithNone_eq_ite ?_
  simp

/-! ### The checks together (R47) -/

theorem firstFailure_numbered_eq_pass_iff (js : List Judgment) (n : Nat) :
    firstFailure (numbered n js) = .pass ↔ ∀ j ∈ js, j = none := by
  induction js generalizing n with
  | nil => simp [numbered, firstFailure]
  | cons j js ih => cases j <;> simp [numbered, firstFailure, ih]

theorem forall_getElem?_iff (es : List PhaseEntry) (P : PhaseEntry → Prop) :
    (∀ (i : Nat) e, es[i]? = some e → P e) ↔ ∀ e ∈ es, P e := by
  simp only [List.mem_iff_getElem?, forall_exists_index]
  exact forall_comm

/-- A2 is met (R49). -/
theorem checkA2_eq_none_iff (sh : Shape) :
    checkA2 sh = none ↔
      (∀ e ∈ sh.energize, e.kind = .rampCurrent ∨ e.kind = .holdCurrent ∨ e.kind = .driveDuty) ∧
      ∀ e ∈ sh.release, e.kind = .fastDecay ∨ e.kind = .coast := by
  rw [(reportsFirst_checkA2 sh).eq_none_iff, Shape.forall_entries_iff, ← forall_getElem?_iff sh.energize,
    ← forall_getElem?_iff sh.release]
  refine and_congr (forall₃_congr fun i e _ => ?_) (forall₃_congr fun i e _ => ?_) <;> cases e.kind <;> simp

/-- A3 is met (R50). -/
theorem checkA3_eq_none_iff (sh : Shape) :
    checkA3 sh = none ↔
      (∀ (i : Nat) e, sh.energize[i]? = some e → e.duration = 0 →
        i + 1 = sh.energize.length ∧ (e.kind = .holdCurrent ∨ e.kind = .driveDuty)) ∧
      ∀ e ∈ sh.release, 1 ≤ e.duration := by
  rw [(reportsFirst_checkA3 sh).eq_none_iff, Shape.forall_entries_iff, ← forall_getElem?_iff sh.release]
  refine and_congr (forall₃_congr fun i e _ => ?_) (forall₃_congr fun i e _ => ?_)
  · simp only [reduceCtorEq, false_or]
    tauto
  · simp only [true_or, and_true]
    omega

/-- A4 is met: no release entry of a shape that meets A2 has a limit (R51). -/
theorem checkA4_eq_none_iff {sh : Shape} (release : ∀ e ∈ sh.release, e.kind = .fastDecay ∨ e.kind = .coast) :
    checkA4 sh = none ↔ ∀ e ∈ sh.energize,
      (e.kind = .rampCurrent → e.level ≤ 400 ∧ ∀ v, e.start = some v → v ≤ 400) ∧
      (e.kind = .holdCurrent → e.level ≤ if e.duration = 0 then 300 else 400) ∧
      (e.kind = .driveDuty → e.duration = 0 → e.level ≤ 192) := by
  rw [(reportsFirst_checkA4 sh).eq_none_iff, Shape.forall_entries_iff, ← forall_getElem?_iff sh.energize]
  rw [and_iff_left fun i e at_ => ?_]
  · refine forall₃_congr fun i e _ => ?_
    cases e.kind <;> simp
  · rcases release e (List.mem_of_getElem? at_) with h | h <;> simp [h]

/-- A5 is met (R52). -/
theorem checkA5_eq_none_iff (sh : Shape) :
    checkA5 sh = none ↔ ∀ (i : Nat) e, sh.energize[i]? = some e → e.kind = .rampCurrent →
      (i = 0 ∨ ∃ e', sh.energize[i - 1]? = some e' ∧ e'.kind = .driveDuty) → e.start.isSome = true := by
  rw [(reportsFirst_checkA5 sh).eq_none_iff, Shape.forall_entries_iff, and_iff_left (by simp)]
  refine forall₃_congr fun i e _ => ?_
  cases e.start <;> simp

theorem badHit_eq_false_iff (e : PhaseEntry) :
    badHit e = false ↔ (e.kind = .rampCurrent ∨ e.kind = .holdCurrent) ∧ 1 ≤ e.duration := by
  simp only [badHit, Bool.or_eq_false_iff, Bool.not_eq_false', Bool.or_eq_true, decide_eq_true_eq, decide_eq_false_iff_not,
    Nat.one_le_iff_ne_zero, ne_eq]

/-- A6 is met: at most one mark, well placed (R53). -/
theorem checkA6_eq_none_iff (sh : Shape) :
    checkA6 sh = none ↔
      ((sh.energize ++ sh.release).filter fun e => e.hit).length ≤ 1 ∧
      ∀ e ∈ sh.energize ++ sh.release, e.hit = true → (e.kind = .rampCurrent ∨ e.kind = .holdCurrent) ∧ 1 ≤ e.duration := by
  have marked : (sh.energize ++ sh.release).filter (fun e => e.hit) = (sh.scan.filter fun x => x.2.hit).map fun x => x.2 := by
    rw [← sh.scan_entries, List.filter_map]
    rfl
  have well_placed : (∀ e ∈ sh.energize ++ sh.release, e.hit = true →
      (e.kind = .rampCurrent ∨ e.kind = .holdCurrent) ∧ 1 ≤ e.duration) ↔
      ∀ e ∈ (sh.scan.filter fun x => x.2.hit).map fun x => x.2, badHit e = false := by
    simp only [← marked, List.mem_filter, badHit_eq_false_iff, and_imp]
  rw [well_placed, marked, List.length_map]
  clear well_placed marked
  unfold checkA6
  generalize (sh.scan.filter fun x => x.2.hit) = hits
  rcases hits with _ | ⟨x, _ | ⟨y, rest⟩⟩
  · simp
  · cases hb : badHit x.2 <;> simp [hb]
  · cases hb : badHit x.2 <;> simp [hb]

/-- A7 is met (R54). -/
theorem checkA7_eq_none_iff (sh : Shape) :
    checkA7 sh = none ↔
      (sh.fields.dipThreshold = none → ∀ e ∈ sh.energize ++ sh.release, e.motion = false) ∧
      (sh.fields.dipThreshold.isSome = true →
        (∀ e ∈ sh.release, e.motion = false) ∧
        ∃ before run after, sh.energize = before ++ run ++ after ∧ run ≠ [] ∧ (∀ e ∈ run, e.motion = true) ∧
          ∀ e ∈ before ++ after, e.motion = false) := by
  cases ht : sh.fields.dipThreshold with
  | none =>
    rw [(reportsFirst_checkA7_of_none ht).eq_none_iff, Shape.forall_entries_iff, forall_getElem?_iff, forall_getElem?_iff]
    simp only [List.mem_append, Bool.not_eq_true, forall_true_left, or_imp, forall_and, Option.isSome_none, Bool.false_eq_true,
      false_imp_iff, and_true]
  | some t =>
    have release : failAtFirst sh.releaseScan (fun x => x.2.motion) = none ↔ ∀ e ∈ sh.release, e.motion = false := by
      have entries : (sh.releaseScan.map fun x => x.2) = sh.release := by
        simp [Shape.releaseScan, Function.comp_def]
      conv_rhs => rw [← entries]
      rw [List.forall_mem_map]
      simp [failAtFirst]
    have one_run := oneRun_iff sh.energize
    rw [← brokenRun_eq_none_iff] at one_run
    simp only [reduceCtorEq, false_imp_iff, true_and, Option.isSome_some, forall_true_left, ← one_run, ← release]
    simp only [checkA7, ht]
    cases brokenRun sh with
    | some p => simp
    | none =>
      cases failAtFirst sh.releaseScan fun x => x.2.motion with
      | some p => simp
      | none => simp [failWithNone]

/-- A8 is met (R55). -/
theorem checkA8_eq_none_iff (sh : Shape) :
    checkA8 sh = none ↔
      ∀ w, sh.fields.travelWindow = some w → sh.fields.dipThreshold.isSome = true ∧ w.lo ≤ w.hi := by
  cases hw : sh.fields.travelWindow with
  | none => simp [checkA8_of_absent hw]
  | some w =>
    rw [checkA8_of_window hw]
    cases sh.fields.dipThreshold <;> simp

/-- A9 is met (R56). -/
theorem checkA9_eq_none_iff (sh : Shape) :
    checkA9 sh = none ↔
      ∀ w, sh.fields.resistanceWindow = some w →
        (∃ e, sh.energize.getLast? = some e ∧ e.kind = .holdCurrent ∧ e.duration = 0) ∧ w.lo ≤ w.hi := by
  cases hw : sh.fields.resistanceWindow with
  | none => simp [checkA9_of_absent hw]
  | some w =>
    simp only [checkA9, hw]
    cases sh.energize.getLast? with
    | none => simp
    | some e => by_cases hold : e.kind = .holdCurrent ∧ e.duration = 0 <;> simp [hold, failWithNone]

/-- A10 is met (R57). -/
theorem checkA10_eq_none_iff (sh : Shape) :
    checkA10 sh = none ↔ (sh.energize.map fun e => e.duration).sum ≤ 65535 := by
  rw [(reportsFirst_checkA10 sh).eq_none_iff, Shape.forall_entries_iff, and_iff_left (by simp)]
  simp only [true_and, Nat.not_lt]
  constructor
  · intro met
    rcases List.eq_nil_or_concat sh.energize with none_ | ⟨before, e, all⟩
    · simp [none_]
    · have := met before.length e (by simp [all])
      rwa [List.take_of_length_le (by simp [all])] at this
  · intro total i e _
    refine Nat.le_trans ?_ total
    conv_rhs => rw [← List.take_append_drop (i + 1) sh.energize, List.map_append, List.sum_append]
    exact Nat.le_add_right _ _

theorem checkA11_eq_none_iff (sh : Shape) :
    checkA11 sh = none ↔ ((∀ e ∈ sh.energize, e.duration ≠ 0) → sh.fields.minOn ≤ (sh.energize.map fun e => e.duration).sum) := by
  rw [checkA11_eq_ite]
  split
  next h => simpa using ⟨h.1, h.2⟩
  next h => simp only [true_iff]; exact fun timed => Nat.not_lt.mp fun lt => h ⟨timed, lt⟩

/-- A shape passes exactly when it meets the checks (R47). -/
theorem runChecks_eq_pass_iff (sh : Shape) :
    runChecks sh = .pass ↔
      checkA1 sh = none ∧ checkA2 sh = none ∧ checkA3 sh = none ∧ checkA4 sh = none ∧ checkA5 sh = none ∧ checkA6 sh = none ∧
        checkA7 sh = none ∧ checkA8 sh = none ∧ checkA9 sh = none ∧ checkA10 sh = none ∧ checkA11 sh = none := by
  rw [runChecks, judgments_eq, firstFailure_numbered_eq_pass_iff]
  simp only [List.forall_mem_cons, List.not_mem_nil, false_imp_iff, implies_true, and_true]

/-- Settles O21: the checks scan the entries in order, so that each reports the first entry that breaks its rule; a shape that no
check refuses meets them all. -/
theorem acceptedShapesMeetEveryCheck : Obligations.AcceptedShapesMeetEveryCheck := by
  refine ⟨fun sh => ?_, fun sh n pos => ?_, fun sh => ?_, rfl, by decide⟩
  · have a1 : checkA1 sh = none ↔ 1 ≤ sh.energize.length ∧ sh.energize.length ≤ 6 := by
      rw [checkA1_eq_ite]
      exact ite_eq_left_iff.trans (by simp)
    rw [runChecks_eq_pass_iff, a1, checkA2_eq_none_iff, checkA3_eq_none_iff, checkA5_eq_none_iff, checkA6_eq_none_iff,
      checkA7_eq_none_iff, checkA8_eq_none_iff, checkA9_eq_none_iff, checkA10_eq_none_iff, checkA11_eq_none_iff]
    simp only [and_assoc]
    refine and_congr_right fun _ => and_congr_right fun _ => and_congr_right fun _ => and_congr_right fun release => ?_
    rw [checkA4_eq_none_iff release]
  · rw [runChecks, judgments_eq]
    exact firstFailure_numbered_iff _ 1 n pos
  · exact ⟨checkA1_eq_ite sh, reportsFirst_checkA2 sh, reportsFirst_checkA3 sh, reportsFirst_checkA4 sh, reportsFirst_checkA5 sh,
      reportsFirst_checkA6 sh, reportsFirst_checkA7_of_none, checkA7_positions, reportsFirst_checkA10 sh, checkA11_eq_ite sh⟩

end Sys2Proof.Machine
end


section
/-! The state right after reset meets everything that every step keeps. -/

namespace Sys2Proof.Machine

theorem State.reset_profile (p : ProfileId) : State.reset.profile p = Profile.empty := by
  simp [State.reset, State.fullReset, State.profile, Vector.get_eq_getElem]

theorem State.reset_channel (ch : ChannelId) : State.reset.channel ch = Channel.reset := by
  simp [State.reset, State.fullReset, State.channel, Vector.get_eq_getElem]

theorem State.reset_stage (ch : ChannelId) : State.reset.stage ch = Stage.reset := by
  simp [State.reset, State.fullReset, State.stage, Vector.get_eq_getElem]

theorem State.reset_chFault (ch : ChannelId) : State.reset.chFault ch = ChannelFault.reset := by
  simp [State.reset, State.fullReset, State.chFault, FaultUnit.reset, Vector.get_eq_getElem]

/-- No copy of a store that was never written is written. -/
theorem State.reset_cells (slot : Slot) : State.reset.store.cells slot = List.replicate (copiesOf slot) .blank := by
  simp [State.reset, State.fullReset, Store.reset, Store.cells, blankArray, Vector.get_eq_getElem]

theorem State.reset_states (slot : Slot) : State.reset.store.states slot = List.replicate (copiesOf slot) .blank := by
  simp [State.reset, State.fullReset, Store.reset, Store.states, blankRecord, Vector.get_eq_getElem]

/-- Settles O60, property by property: after reset the table is empty, the pool free, no channel drives, and no copy is written. -/
theorem resetMeetsEveryKeptProperty : Obligations.ResetMeetsEveryKeptProperty := by
  refine ⟨PoolAccounted.fullReset State.reset, ModeGovernsDrive.of_stopped fun ch => ?_, nofun, ⟨nofun, nofun, nofun, nofun⟩,
    TableAccounted.fullReset State.reset, fun p => ?_, ⟨fun p => ?_, fun slot content check mem => ?_, nofun⟩, fun ch => ?_,
    fun ch => ?_, ⟨nofun, nofun, nofun, nofun, fun _ => rfl⟩, fun slot => ?_, fun away => absurd rfl away,
    fun slot below => absurd below (Nat.not_lt_zero _), nofun⟩
  · rw [State.reset_channel]; rfl
  · rw [State.reset_profile]; exact Profile.withheldExact_of_run_zero rfl rfl
  · rw [State.reset_profile]
    exact ⟨nofun, nofun, nofun, Nat.zero_le _⟩
  · rw [State.reset_cells] at mem
    cases List.eq_of_mem_replicate mem
  · simp only [State.ready, State.driving, State.reset_channel, State.reset_stage, State.reset_chFault]
    decide
  · simp only [State.reset_channel, State.reset_chFault]
    decide
  · rw [State.reset_cells, State.reset_states]
    simp

end Sys2Proof.Machine
end


section
/-! What a channel's own steps do at its channel (R83, R94, R107), and what a fold over the channels does at one of them. -/

namespace Sys2Proof.Machine

/-! ### What the unit has due (R107) -/

/-- The unit of an actuation with what the last period made due taken: the dip confirmed, then the resistance sampled. -/
def Diag.dipSettled (u : Diag) (v : Fields) : Diag := if u.dipDue v then u.confirmDip else u

/-- The unit with its resistance sampled where that is due. -/
def Diag.sampleSettled (u : Diag) (a : Actuation) (sh : Shape) (st : Stage) : Diag :=
  if (sh.seqOf a.seq)[a.pos]?.any fun ph => u.sampleDue a.seq ph a.phaseTime then u.takeSample sh.fields st.duty st.sensed else u

theorem State.takeDip_eq (s : State) (ch : ChannelId) (a : Actuation) :
    s.takeDip ch a = s.setDiag ch ((s.diag ch).dipSettled (s.shapeOf a).fields) := by
  unfold State.takeDip Diag.dipSettled
  split
  · rfl
  · exact (s.setDiag_self ch).symm

theorem State.takeSample_eq (s : State) (ch : ChannelId) (a : Actuation) :
    s.takeSample ch a = s.setDiag ch ((s.diag ch).sampleSettled a (s.shapeOf a) (s.stage ch)) := by
  unfold State.takeSample Diag.sampleSettled State.phaseOf
  split
  · rfl
  · exact (s.setDiag_self ch).symm

/-- A unit is no part of what a version holds. -/
@[simp] theorem State.shapeOf_setDiag (s : State) (ch : ChannelId) (u : Diag) (a : Actuation) :
    (s.setDiag ch u).shapeOf a = s.shapeOf a := rfl

/-- The unit of a running actuation once what it has due is taken. -/
theorem State.settleUnit_diag {s : State} {ch : ChannelId} {a : Actuation} (running : (s.channel ch).running = some a) :
    (s.settleUnit ch).diag ch =
      ((s.diag ch).dipSettled (s.shapeOf a).fields).sampleSettled a (s.shapeOf a) (s.stage ch) := by
  simp only [State.settleUnit, running, State.takeDip_eq, State.takeSample_eq, State.diag_setDiag_same, State.shapeOf_setDiag]
  rfl

theorem State.settleUnit_of_idle {s : State} {ch : ChannelId} (idle : (s.channel ch).running = none) : s.settleUnit ch = s := by
  simp only [State.settleUnit, idle]

/-- The search of a unit whose search has been closed (R111). -/
theorem Diag.close_search (u : Diag) (v : Fields) : (u.close v).search = .off ∨ (u.close v).search = .closed := by
  unfold Diag.close
  split <;> simp [*]

theorem Diag.close_sample (u : Diag) (v : Fields) : (u.close v).sample = u.sample := by
  unfold Diag.close
  split <;> rfl

/-- Nothing is due to a unit that was settled and then had its search closed. -/
theorem Diag.settled_closed (u : Diag) (a : Actuation) (sh : Shape) (st : Stage) (v w : Fields) :
    (((u.sampleSettled a sh st).close v).dipSettled w).sampleSettled a sh st = (u.sampleSettled a sh st).close v := by
  have no_dip : ∀ x : Diag, x.search = .off ∨ x.search = .closed → x.dipSettled w = x := fun x hx => by
    unfold Diag.dipSettled
    rw [if_neg]
    rcases hx with hx | hx <;> simp [Diag.dipDue, hx]
  rw [no_dip _ (Diag.close_search _ v)]
  have no_sample : ((sh.seqOf a.seq)[a.pos]?.any fun ph => ((u.sampleSettled a sh st).close v).sampleDue a.seq ph a.phaseTime) =
      false := by
    rw [Bool.eq_false_iff]
    intro due
    obtain ⟨ph, at_, due⟩ := Option.any_eq_true _ _ |>.mp due
    simp only [Diag.sampleDue, Diag.close_sample, Bool.and_eq_true] at due
    obtain ⟨time, none_⟩ := due
    unfold Diag.sampleSettled at none_
    split at none_
    · cases none_
    next not_due => exact not_due (Option.any_eq_true _ _ |>.mpr ⟨ph, at_, by simp only [Diag.sampleDue, Bool.and_eq_true]; exact ⟨time, none_⟩⟩)
  exact if_neg (Bool.eq_false_iff.mp no_sample)

/-! ### The release sequence entered (R90, R91, R94) -/

/-- Leaving the energize sequence, said of the state before. -/
theorem State.leavesEnergize_enterRelease {s : State} {ch : ChannelId} {a : Actuation} (running : (s.channel ch).running = some a)
    (cause : EndCause) : s.LeavesEnergize (s.enterRelease ch cause) ch a cause := by
  refine ⟨((s.settleUnit ch).diag ch).close (s.shapeOf a).fields, rfl, Diag.close_search _ _, ?_⟩
  have unit := s.settleUnit_eq_setDiag ch
  generalize (s.settleUnit ch).diag ch = u at unit
  simp only [State.enterRelease, running, unit, State.closeSearch, State.diag_setDiag_same, State.setDiag_setDiag,
    State.shapeOf_setDiag, List.isEmpty_iff]
  rfl

/-- What DISARM does at one channel (R97). -/
theorem State.disarmsChannel (s : State) (ch : ChannelId) : s.DisarmsChannel (s.disarmChannel ch) ch := by
  refine ⟨fun away => ?_, fun a running energizing => ?_⟩
  · unfold State.disarmChannel
    cases running : (s.channel ch).running with
    | none => rfl
    | some a => cases hq : a.seq <;> simp_all [Channel.energized]
  · have issued : s.disarmChannel ch = (s.requestRelease ch a .disarm).1 := by
      simp only [State.disarmChannel, running, energizing]
    rw [issued]
    rcases s.requestRelease_cases ch a .disarm with ⟨held, e⟩ | ⟨free, reached, e⟩ | ⟨free, early, e⟩ <;> rw [e]
    · exact ⟨fun _ => rfl, fun none_ => (by rw [none_] at held; cases held)⟩
    · refine ⟨fun held => (by rw [free] at held; cases held), fun _ => And.intro (fun early => absurd reached (Nat.not_le.mpr early)) fun _ => ?_⟩
      exact State.leavesEnergize_enterRelease running .disarmed
    · exact ⟨fun held => (by rw [free] at held; cases held),
        fun _ => And.intro (fun _ => rfl) fun reached => absurd early (Nat.not_lt.mpr reached)⟩

/-! ### One channel after another -/

/-- A channel's own record, stage and unit are the same in two states. -/
def State.SameOwn (s t : State) (ch : ChannelId) : Prop :=
  t.channel ch = s.channel ch ∧ t.stage ch = s.stage ch ∧ t.diag ch = s.diag ch

theorem State.SameOwn.refl (s : State) (ch : ChannelId) : s.SameOwn s ch := ⟨rfl, rfl, rfl⟩

theorem State.SameOwn.trans {s t u : State} {ch : ChannelId} (h : s.SameOwn t ch) (k : t.SameOwn u ch) : s.SameOwn u ch := by
  obtain ⟨hc, hs, hd⟩ := h
  obtain ⟨kc, ks, kd⟩ := k
  exact ⟨kc.trans hc, ks.trans hs, kd.trans hd⟩

theorem ChannelOnly.sameOwn {ch c : ChannelId} {s t : State} (h : ChannelOnly ch s t) (other : c ≠ ch) : s.SameOwn t c :=
  ⟨h.channel c other, h.stage c other, h.diag c other⟩

section

variable (f : State → ChannelId → State) (only : ∀ s ch, ChannelOnly ch s (f s ch))

include only

/-- A fold over other channels keeps a channel's own, and what every step of another channel keeps. -/
theorem foldl_others (P : State → Prop) {ch : ChannelId} (keeps : ∀ u c, c ≠ ch → P u → P (f u c)) :
    ∀ (l : List ChannelId) (s : State), ch ∉ l → P s → P (l.foldl f s) ∧ s.SameOwn (l.foldl f s) ch := by
  intro l
  induction l with
  | nil => exact fun s _ h => ⟨h, .refl s ch⟩
  | cons c l ih =>
    intro s away h
    have other : c ≠ ch := fun e => away (e ▸ List.mem_cons_self ..)
    obtain ⟨kept, own⟩ := ih (f s c) (fun mem => away (List.mem_cons_of_mem _ mem)) (keeps s c other h)
    exact ⟨kept, ((only s c).sameOwn other.symm).trans own⟩

/-- A fold over every channel reaches each at its own turn, in a state with that channel's own items still as they were and all that the
steps before keep; what its step leaves of them stays. -/
theorem foldl_turn (P : State → Prop) (s : State) (ch : ChannelId) (start : P s) (keeps : ∀ u c, c ≠ ch → P u → P (f u c)) :
    ∃ u, P u ∧ s.SameOwn u ch ∧ (f u ch).SameOwn (allChannels.foldl f s) ch := by
  obtain ⟨l, l', split⟩ := List.append_of_mem (mem_allChannels ch)
  have nodup : (l ++ ch :: l').Nodup := split ▸ nodup_allChannels
  obtain ⟨_, later, apart⟩ := List.nodup_append.mp nodup
  have before : ch ∉ l := fun mem => apart ch mem ch (List.mem_cons_self ..) rfl
  have after : ch ∉ l' := (List.nodup_cons.mp later).1
  obtain ⟨kept, own⟩ := foldl_others f only P keeps l s before start
  refine ⟨l.foldl f s, kept, own, ?_⟩
  rw [split, List.foldl_append, List.foldl_cons]
  exact (foldl_others f only (fun _ => True) (fun _ _ _ _ => trivial) l' _ after trivial).2

end

theorem foldl_keeps {α : Type} (f : State → α → State) (P : State → Prop) (keeps : ∀ u c, P u → P (f u c)) (l : List α) (s : State)
    (start : P s) : P (l.foldl f s) := by
  induction l generalizing s with
  | nil => exact start
  | cons c l ih => exact ih _ (keeps s c start)

/-! ### Other channels' versions (R7, R8) -/

theorem State.shapeOf_of_draining {s : State} {a : Actuation} {v : Version}
    (other : ∀ w, (s.profile a.profile).live = some w → w.gen ≠ a.gen) (draining : (s.profile a.profile).draining = some v)
    (gen : v.gen = a.gen) : s.shapeOf a = v.shape := by
  simp only [State.shapeOf, State.versionOf, State.kindOf_eq_draining other, draining, Option.filter_some, gen, decide_true, if_true]

/-- An end takes the engagement off the live version it was on, and off no other. -/
theorem State.endActuation_live {s : State} {ch : ChannelId} {a : Actuation} (running : (s.channel ch).running = some a)
    (cause : EndCause) (q : ProfileId) :
    ((s.endActuation ch cause).profile q).live =
      (s.profile q).live.map fun v => { v with engaged := v.engaged - (a.runsOn q v.gen).toNat } := by
  rw [State.endActuation_profile running cause q]
  show ((s.disengage a.profile a.gen _).profile q).live = _
  -- a live version that was not engaged stands
  have unreached : (s.kindOf a.profile a.gen = .draining ∨ q ≠ a.profile) →
      ((s.profile q).live.map fun v => { v with engaged := v.engaged - (a.runsOn q v.gen).toNat }) = (s.profile q).live :=
    fun away => by
      cases live : (s.profile q).live with
      | none => rfl
      | some v =>
        have none_ : a.runsOn q v.gen = false := by
          rw [Actuation.runsOn, Bool.and_eq_false_iff, decide_eq_false_iff_not, decide_eq_false_iff_not]
          by_contra runs
          push Not at runs
          obtain ⟨rfl, gen⟩ := runs
          rcases away with kind | away
          · exact absurd (kind.symm.trans ((s.kindOf_eq_live_iff _ _).mpr ⟨v, live, gen.symm⟩)) nofun
          · exact away rfl
        rw [Option.map_some, none_]; rfl
  by_cases other : q = a.profile
  · subst other
    rcases s.disengage_eq a.profile a.gen (s.endRecord ch a cause).verdict with ⟨v, live, gen, _, e⟩ | ⟨v, _, _, kind, e⟩ | ⟨kind, _, e⟩
    · obtain ⟨hlive, _⟩ := Profile.count_frame
        ({ s.profile a.profile with live := some { v with engaged := v.engaged - 1 } } : Profile) (s.endRecord ch a cause).verdict
      rw [e, State.profile_setProfile_same, hlive, live]
      simp [Actuation.runsOn, gen]
    · rw [unreached (.inl kind), e]
      rcases s.loseDraining_eq a.profile v with ⟨_, e⟩ | ⟨_, e⟩ <;> rw [e] <;> simp
    · rw [unreached (.inl kind), e]
  · rw [unreached (.inr other), s.disengage_profile_other _ _ other]

/-- A version that drains after an end did so before it, with the same shape. -/
theorem State.endActuation_draining {s : State} {ch : ChannelId} {a : Actuation} (running : (s.channel ch).running = some a)
    (cause : EndCause) {q : ProfileId} {w : Version} (draining : ((s.endActuation ch cause).profile q).draining = some w) :
    ∃ v, (s.profile q).draining = some v ∧ v.gen = w.gen ∧ v.shape = w.shape := by
  rw [State.endActuation_profile running cause q] at draining
  change ((s.disengage a.profile a.gen _).profile q).draining = _ at draining
  by_cases other : q = a.profile
  · subst other
    rcases s.disengage_eq a.profile a.gen (s.endRecord ch a cause).verdict with ⟨v, live, gen, _, e⟩ | ⟨v, here, _, _, e⟩ | ⟨_, _, e⟩
    · obtain ⟨_, _, hdraining, _⟩ := Profile.count_frame
        ({ s.profile a.profile with live := some { v with engaged := v.engaged - 1 } } : Profile) (s.endRecord ch a cause).verdict
      rw [e, State.profile_setProfile_same, hdraining] at draining
      exact ⟨w, draining, rfl, rfl⟩
    · rw [e] at draining
      rcases s.loseDraining_eq a.profile v with ⟨_, e⟩ | ⟨_, e⟩ <;> rw [e] at draining
      · simp at draining
      · simp only [State.profile_setProfile_same, Option.some.injEq] at draining
        subst draining
        exact ⟨v, here, rfl, rfl⟩
    · rw [e] at draining
      exact ⟨w, draining, rfl, rfl⟩
  · rw [s.disengage_profile_other _ _ other] at draining
    exact ⟨w, draining, rfl, rfl⟩

/-- The version that a channel runs on keeps its shape as another channel ends. -/
theorem State.shapeOf_endActuation {s : State} (accounted : TableAccounted s) {c ch : ChannelId} {a : Actuation} (other : c ≠ ch)
    (running : (s.channel ch).running = some a) (cause : EndCause) : (s.endActuation c cause).shapeOf a = s.shapeOf a := by
  cases drives : (s.channel c).running with
  | none => rw [State.endActuation_of_not_running cause drives]
  | some b =>
    have still : ((s.endActuation c cause).channel ch).running = some a := by
      rw [(ChannelOnly.endActuation s c cause).channel ch other.symm, running]
    obtain ⟨_, _, draining, holds⟩ := accounted.endActuation c cause
    obtain ⟨_, _, below, _⟩ := accounted
    rcases (holds ch a still).2 with ⟨w, hw, gen⟩ | ⟨w, hw, gen⟩
    · rw [State.shapeOf_of_live hw gen]
      rw [State.endActuation_live drives cause] at hw
      obtain ⟨v, hv, rfl⟩ := Option.map_eq_some_iff.mp hw
      rw [State.shapeOf_of_live hv gen]
    · obtain ⟨_, _, x, hx, above⟩ := draining _ w hw
      rw [State.shapeOf_of_draining (fun y hy => by rw [hx] at hy; cases hy; omega) hw gen]
      obtain ⟨v, hv, hgen, hshape⟩ := State.endActuation_draining drives cause hw
      obtain ⟨_, _, x, hx, above⟩ := below _ v hv
      rw [State.shapeOf_of_draining (fun y hy => by rw [hx] at hy; cases hy; omega) hv (hgen.trans gen), hshape]

end Sys2Proof.Machine
end


section
/-! DISARM, channel by channel (R97, R159). -/

namespace Sys2Proof.Machine

/-! ### An admitted command -/

/-- An admitted command whose owner reads nothing of the link port leaves what its owner makes of the part, and the reply. -/
theorem linkCommand_owner {c : Command} {f : Frame} {s t : State} {owner : State → State × Answer} {r : ResultCode} {d : ReplyData}
    (h : s.admits c f) (link : t.link = s.link)
    (ho : ∀ l, owner (s.withLink l) = (t.withLink l, { result := r, data := d })) :
    linkCommand c f s owner = t.replied c f r d := by
  rw [linkCommand_admitted owner h (ho _)]
  have closed := congrArg State.link (State.prepare_closeFrame h.2.1 c f r d)
  have prepared : ∀ bits r, (t.withLink (s.link.ended bits)).prepare r = t.withLink ((s.closeFrame bits).prepare r).link :=
    fun _ _ => rfl
  rw [prepared, closed]
  unfold State.replied State.withLink
  rw [link]

/-! ### DISARM over the channels -/

theorem State.disarmChannel_withLink (s : State) (l : LinkPort) (ch : ChannelId) :
    (s.withLink l).disarmChannel ch = (s.disarmChannel ch).withLink l := by
  unfold State.disarmChannel
  rw [State.withLink_channel]
  split
  · rfl
  · split
    · rw [State.requestRelease_withLink]
    · rfl

theorem State.disarm_withLink (s : State) (l : LinkPort) : (s.withLink l).disarm = s.disarm.withLink l := by
  unfold State.disarm
  rw [State.withLink_modes, foldl_withLink s l _ State.disarmChannel_withLink]
  generalize allChannels.foldl State.disarmChannel s = u
  cases s.modes.mode <;> rfl

/-- What DISARM can do at a channel: nothing to one that needs no release, a release held, or the release sequence entered (R97). -/
theorem State.disarmChannel_cases (s : State) (ch : ChannelId) :
    ((s.channel ch).released ∧ s.disarmChannel ch = s) ∨
      ∃ a, (s.channel ch).running = some a ∧ a.seq = .energize ∧ a.heldFrom = none ∧
        ((a.time < 2 * (s.shapeOf a).fields.minOn ∧ s.disarmChannel ch = s.holding ch a .disarm) ∨
          (2 * (s.shapeOf a).fields.minOn ≤ a.time ∧ s.LeavesEnergize (s.disarmChannel ch) ch a .disarmed)) := by
  obtain ⟨away, energizing⟩ := s.disarmsChannel ch
  cases he : (s.channel ch).energized with
  | false =>
    refine .inl ⟨fun a running hq => ?_, away he⟩
    simp [Channel.energized, running, hq] at he
  | true =>
    obtain ⟨a, running, hq⟩ : ∃ a, (s.channel ch).running = some a ∧ a.seq = .energize := by
      unfold Channel.energized at he
      split at he
      · cases he
      next a running => exact ⟨a, running, by simpa using he⟩
    obtain ⟨held, free⟩ := energizing a running hq
    cases hh : a.heldFrom with
    | some source =>
      have some_held : a.heldFrom.isSome = true := by rw [hh]; rfl
      refine .inl ⟨fun b hb _ => ?_, held some_held⟩
      obtain rfl := Option.some.inj (running.symm.trans hb)
      exact some_held
    | none =>
      obtain ⟨early, reached⟩ := free hh
      refine .inr ⟨a, running, hq, hh, ?_⟩
      rcases Nat.lt_or_ge a.time (2 * (s.shapeOf a).fields.minOn) with lt | ge
      · exact .inl ⟨lt, early lt⟩
      · exact .inr ⟨ge, reached ge⟩

/-- DISARM at a channel that needs no release does nothing. -/
theorem State.disarmChannel_of_released {s : State} {ch : ChannelId} (h : (s.channel ch).released) : s.disarmChannel ch = s := by
  rcases s.disarmChannel_cases ch with ⟨_, e⟩ | ⟨a, running, hq, free, _⟩
  · exact e
  · have := h a running hq
    rw [free] at this
    cases this

theorem Channel.released_of_not_energized {c : Channel} (h : c.energized = false) : c.released := fun a running hq => by
  simp [Channel.energized, running, hq] at h

/-- Of the table an end reaches what is live, what drains and what is counted, and no draft or high-water mark. -/
theorem State.endActuation_kept (s : State) (ch : ChannelId) (cause : EndCause) (p : ProfileId) :
    ((s.endActuation ch cause).profile p).draft = (s.profile p).draft ∧
      ((s.endActuation ch cause).profile p).highWater = (s.profile p).highWater := by
  cases running : (s.channel ch).running with
  | none => rw [State.endActuation_of_not_running cause running]; exact ⟨rfl, rfl⟩
  | some a =>
    rw [State.endActuation_profile running cause p]
    show ((s.disengage a.profile a.gen _).profile p).draft = _ ∧ ((s.disengage a.profile a.gen _).profile p).highWater = _
    generalize (s.endRecord ch a cause).verdict = verdict
    by_cases other : p = a.profile
    · subst other
      rcases s.disengage_eq a.profile a.gen verdict with ⟨v, _, _, _, e⟩ | ⟨v, _, _, _, e⟩ | ⟨_, _, e⟩ <;> rw [e]
      · obtain ⟨_, hdraft, _, hmark, _⟩ := Profile.count_frame
          ({ s.profile a.profile with live := some { v with engaged := v.engaged - 1 } } : Profile) verdict
        rw [State.profile_setProfile_same]
        exact ⟨hdraft, hmark⟩
      · rcases s.loseDraining_eq a.profile v with ⟨_, e⟩ | ⟨_, e⟩ <;> rw [e] <;> simp
      · exact ⟨rfl, rfl⟩
    · rw [s.disengage_profile_other _ _ other]
      exact ⟨rfl, rfl⟩

/-- Leaving the energize sequence reaches the table only where the actuation ends with it. -/
theorem State.LeavesEnergize.table {s t : State} {ch : ChannelId} {a : Actuation} {cause : EndCause}
    (h : s.LeavesEnergize t ch a cause) :
    (∀ p, (t.profile p).draft = (s.profile p).draft ∧ (t.profile p).highWater = (s.profile p).highWater) ∧
      ((s.shapeOf a).release ≠ [] → t.profiles = s.profiles ∧ t.free = s.free) := by
  obtain ⟨u, _, _, e⟩ := h
  split at e
  next none_ =>
    refine ⟨fun p => ?_, fun some_ => absurd none_ some_⟩
    rw [e]
    exact (s.setDiag ch u).endActuation_kept ch cause p
  next =>
    rw [e]
    exact ⟨fun _ => ⟨rfl, rfl⟩, fun _ => ⟨rfl, rfl⟩⟩

/-- What DISARM does at one channel keeps the accounts of the table, and the versions that the other channels run on. -/
theorem TableAccounted.disarmChannel {s : State} (h : TableAccounted s) (c : ChannelId) :
    TableAccounted (s.disarmChannel c) ∧
      ∀ ch a, c ≠ ch → (s.channel ch).running = some a → (s.disarmChannel c).shapeOf a = s.shapeOf a := by
  have unit : ∀ u, TableAccounted (s.setDiag c u) := fun u => h.keepRecord c rfl (fun _ _ => rfl) rfl rfl rfl rfl
  -- a record that goes on with its actuation
  have record : ∀ (t : State) (r : Channel) (b a : Actuation), TableAccounted t → (t.channel c).running = some a →
      r.binding = (t.channel c).binding → r.running = some b → b.profile = a.profile → b.gen = a.gen →
      TableAccounted (t.setChannel c r) := fun t r b a ht running binding goes profile gen =>
    ht.keepRecord c rfl (fun d hd => by rw [State.channel_setChannel, if_neg hd])
      (by rw [State.channel_setChannel_same, binding]) (by simp [Channel.engagement, goes, running, profile, gen]) rfl rfl
  rcases s.disarmChannel_cases c with ⟨_, e⟩ | ⟨a, running, _, _, ⟨_, e⟩ | ⟨_, u, _, _, e⟩⟩
  · rw [e]; exact ⟨h, fun _ _ _ _ => rfl⟩
  · rw [e]
    exact ⟨record s _ _ a h running rfl rfl rfl rfl, fun _ _ _ _ => rfl⟩
  · rw [e]
    split
    · exact ⟨(unit u).endActuation c .disarmed, fun ch b other drives => State.shapeOf_endActuation (unit u) other drives .disarmed⟩
    · exact ⟨record _ _ _ a (unit u) running rfl rfl rfl rfl, fun _ _ _ _ => rfl⟩

/-- A channel's own items once it has left the energize sequence. -/
theorem State.LeavesEnergize.own {s t : State} {ch : ChannelId} {a : Actuation} {cause : EndCause}
    (h : s.LeavesEnergize t ch a cause) (running : (s.channel ch).running = some a) :
    t.diag ch = ((s.settleUnit ch).diag ch).close (s.shapeOf a).fields ∧
      ((s.shapeOf a).release ≠ [] → t.stage ch = s.stage ch ∧
        t.channel ch =
          { s.channel ch with
            running := some
              { a with
                seq := .release, pos := 0, phaseTime := 0, heldFrom := none, noted := some cause
                entryCurrent := (s.stage ch).sensed } }) ∧
      ((s.shapeOf a).release = [] → (t.channel ch).running = none ∧ (t.stage ch).mode = .off ∧
        ∃ r, (t.channel ch).outcome = some r ∧ r.cause = cause) := by
  obtain ⟨u, hu, _, e⟩ := h
  split at e
  next none_ =>
    have closing : ((s.setDiag ch u).channel ch).running = some a := running
    obtain ⟨stage, diag⟩ := State.endActuation_drive closing cause
    rw [e]
    refine ⟨?_, fun some_ => absurd none_ some_, fun _ => ⟨State.endActuation_running _ ch _, by rw [stage], ?_⟩⟩
    · rw [diag, State.settleUnit_diag closing, State.diag_setDiag_same, State.shapeOf_setDiag, hu, State.settleUnit_diag running]
      exact Diag.settled_closed _ a _ _ _ _
    · rw [State.endActuation_channel_same closing]
      exact ⟨_, rfl, rfl⟩
  next some_ =>
    rw [e, State.channel_setChannel_same]
    refine ⟨?_, fun _ => ⟨rfl, rfl⟩, fun none_ => absurd none_ some_⟩
    rw [← hu]
    simp

/-- Each channel's own items after DISARM, where the table is accounted for: they are what DISARM makes of them alone (R97). -/
theorem State.disarmChannels_own {s t : State} (h : TableAccounted s) (folded : allChannels.foldl State.disarmChannel s = t)
    {ch : ChannelId} {a : Actuation} (running : (s.channel ch).running = some a) (hq : a.seq = .energize)
    (free : a.heldFrom = none) :
    (a.time < 2 * (s.shapeOf a).fields.minOn →
      t.channel ch = { s.channel ch with running := some { a with heldFrom := some .disarm, earlyHeld := true } } ∧
      t.stage ch = s.stage ch ∧ t.diag ch = s.diag ch) ∧
    (2 * (s.shapeOf a).fields.minOn ≤ a.time →
      t.diag ch = ((s.settleUnit ch).diag ch).close (s.shapeOf a).fields ∧
      ((s.shapeOf a).release ≠ [] → t.stage ch = s.stage ch ∧
        t.channel ch =
          { s.channel ch with
            running := some
              { a with
                seq := .release, pos := 0, phaseTime := 0, heldFrom := none, noted := some .disarmed
                entryCurrent := (s.stage ch).sensed } }) ∧
      ((s.shapeOf a).release = [] → (t.channel ch).running = none ∧ (t.stage ch).mode = .off ∧
        ∃ r, (t.channel ch).outcome = some r ∧ r.cause = .disarmed)) := by
  obtain ⟨u, ⟨_, shape, drives⟩, ⟨uc, us, ud⟩, own⟩ :=
    foldl_turn State.disarmChannel ChannelOnly.disarmChannel
      (fun u => TableAccounted u ∧ u.shapeOf a = s.shapeOf a ∧ (u.channel ch).running = some a) s ch ⟨h, rfl, running⟩
      fun u c other ⟨accounted, shape, drives⟩ =>
        ⟨(accounted.disarmChannel c).1, ((accounted.disarmChannel c).2 ch a other drives).trans shape,
          by rw [(ChannelOnly.disarmChannel u c).channel ch other.symm, drives]⟩
  rw [folded] at own
  obtain ⟨tc, ts, td⟩ := own
  rw [tc, ts, td, ← shape, ← uc, ← us, ← ud]
  obtain ⟨early, reached⟩ := ((u.disarmsChannel ch).2 a drives hq).2 free
  have unit : (u.settleUnit ch).diag ch = (s.settleUnit ch).diag ch := by
    rw [State.settleUnit_diag drives, State.settleUnit_diag running, shape, ud, us]
  refine ⟨fun lt => ?_, fun ge => ?_⟩
  · rw [early lt, State.holding, State.channel_setChannel_same]
    exact ⟨rfl, rfl, rfl⟩
  · rw [← unit]
    exact (reached ge).own drives

/-- A channel that needs no release is not reached by DISARM, whatever the others are. -/
theorem State.disarmChannels_of_released {s : State} {ch : ChannelId} (h : (s.channel ch).released) :
    s.SameOwn (allChannels.foldl State.disarmChannel s) ch := by
  obtain ⟨u, _, own, turn⟩ := foldl_turn State.disarmChannel ChannelOnly.disarmChannel (fun _ => True) s ch trivial
    fun _ _ _ _ => trivial
  rw [State.disarmChannel_of_released (by rw [own.1]; exact h)] at turn
  exact own.trans turn

/-- Where no actuation ends with its release, DISARM does not reach the table. -/
theorem State.disarmChannels_table {s : State}
    (goes_on : ∀ ch a, (s.channel ch).running = some a → a.seq = .energize → a.heldFrom = none →
      2 * (s.shapeOf a).fields.minOn ≤ a.time → (s.shapeOf a).release ≠ []) :
    (allChannels.foldl State.disarmChannel s).profiles = s.profiles ∧ (allChannels.foldl State.disarmChannel s).free = s.free := by
  have kept := foldl_keeps State.disarmChannel
    (fun u => (u.profiles = s.profiles ∧ u.free = s.free) ∧ ∀ c, u.channel c = s.channel c ∨ (u.channel c).released)
    (fun u c ⟨⟨profiles, free⟩, channels⟩ => ?_) allChannels s ⟨⟨rfl, rfl⟩, fun _ => .inl rfl⟩
  · exact kept.1
  have others : ∀ d, (u.disarmChannel c).channel d = s.channel d ∨ ((u.disarmChannel c).channel d).released := fun d => by
    by_cases same : d = c
    · exact .inr (same ▸ u.disarmChannel_released c)
    · rw [(ChannelOnly.disarmChannel u c).channel d same]; exact channels d
  refine ⟨?_, others⟩
  rcases u.disarmChannel_cases c with ⟨_, e⟩ | ⟨a, running, hq, unheld, ⟨_, e⟩ | ⟨reached, leaves⟩⟩
  · rw [e]; exact ⟨profiles, free⟩
  · rw [e]; exact ⟨profiles, free⟩
  · have shape : u.shapeOf a = s.shapeOf a := by
      simp only [State.shapeOf, State.versionOf, State.kindOf, State.profile, profiles]
    have running' : (s.channel c).running = some a := by
      rcases channels c with same | released
      · rw [← same, running]
      · have := released a running hq
        rw [unheld] at this
        cases this
    obtain ⟨same, pool⟩ := leaves.table.2 (by rw [shape]; exact goes_on c a running' hq unheld (shape ▸ reached))
    exact ⟨same.trans profiles, pool.trans free⟩

theorem foldl_disarmChannel_of_released (l : List ChannelId) {s : State} (h : ∀ c ∈ l, (s.channel c).released) :
    l.foldl State.disarmChannel s = s := by
  induction l with
  | nil => rfl
  | cons c l ih =>
    obtain ⟨first, rest⟩ := List.forall_mem_cons.mp h
    rw [List.foldl_cons, State.disarmChannel_of_released first, ih rest]

/-- Where one channel alone needs a release, DISARM is what it does there. -/
theorem State.disarmChannels_alone {s : State} {ch : ChannelId} (others : ∀ c, c ≠ ch → (s.channel c).released) :
    allChannels.foldl State.disarmChannel s = s.disarmChannel ch := by
  obtain ⟨l, l', split⟩ := List.append_of_mem (mem_allChannels ch)
  have nodup : (l ++ ch :: l').Nodup := split ▸ by decide
  obtain ⟨_, later, apart⟩ := List.nodup_append.mp nodup
  have before : ∀ c ∈ l, c ≠ ch := fun c mem e => apart c mem ch (List.mem_cons_self ..) e
  have after : ∀ c ∈ l', c ≠ ch := fun c mem e => (List.nodup_cons.mp later).1 (e ▸ mem)
  rw [split, List.foldl_append, List.foldl_cons, foldl_disarmChannel_of_released l fun c mem => others c (before c mem)]
  refine foldl_disarmChannel_of_released l' fun c mem => ?_
  rw [(ChannelOnly.disarmChannel s ch).channel c (after c mem)]
  exact others c (after c mem)

/-- The channels up to one's own, and it. -/
theorem take_allChannels (ch : ChannelId) : allChannels.take (ch.val + 1) = allChannels.take ch.val ++ [ch] := by
  revert ch; decide

/-- The part once DISARM has been through the channels below one. -/
def State.disarmedBelow (s : State) (k : Nat) : State := (allChannels.take k).foldl State.disarmChannel s

theorem State.disarmedBelow_succ (s : State) (ch : ChannelId) :
    s.disarmedBelow (ch.val + 1) = (s.disarmedBelow ch.val).disarmChannel ch := by
  rw [State.disarmedBelow, take_allChannels, List.foldl_append]
  rfl

/-- Settles O45: DISARM acts at one channel after another, each reaching its own items and, where an actuation ends, the table. -/
theorem disarmReleasesDrivingChannels : Obligations.DisarmReleasesDrivingChannels := by
  intro f s admits
  have run : exec (.disarm f) s =
      .next (s.disarm.replied .disarm f .ok { b4 := if s.modes.mode = .armed then s.energizedSet else 0 }) := by
    have link : s.disarm.link = s.link := by
      have untouched : s.disarm = s.disarm.withLink s.link := s.disarm_withLink s.link
      exact (congrArg (fun t : State => t.link) untouched).trans rfl
    refine congrArg Host.Outcome.next (linkCommand_owner admits link fun l => ?_)
    unfold disarmPart okWith
    rw [State.disarm_withLink]
    rfl
  refine ⟨fun standby => ?_, fun suspended => ?_, fun armed => ?_⟩
  · rw [run, if_neg (by rw [standby]; simp)]
    simp only [State.disarm, standby]
  · rw [run, if_neg (by rw [suspended]; simp)]
    simp only [State.disarm, suspended]
    rfl
  · obtain ⟨pending, reset, faults, monitor, modes, store, loader, link⟩ :=
      foldl_rest State.disarmChannel ChannelOnly.disarmChannel allChannels s
    have released (ch : ChannelId) := State.disarmChannels_of_released (s := s) (ch := ch)
    have each := foldl_each State.disarmChannel ChannelOnly.disarmChannel Channel.released State.disarmChannel_released s
    have own (accounted : TableAccounted s) (ch : ChannelId) (a : Actuation) :=
      State.disarmChannels_own (ch := ch) (a := a) accounted rfl
    have table := @State.disarmChannels_table s
    have alone := @State.disarmChannels_alone s
    have kept := foldl_keeps State.disarmChannel
      (fun u => ∀ p, (u.profile p).draft = (s.profile p).draft ∧ (u.profile p).highWater = (s.profile p).highWater)
      (fun u c h p => ?_) allChannels s fun _ => ⟨rfl, rfl⟩
    have chain : ∃ u : Nat → State, u 0 = s ∧ allChannels.foldl State.disarmChannel s = u 8 ∧
        ∀ ch : ChannelId, (u ch.val).DisarmsChannel (u (ch.val + 1)) ch :=
      ⟨s.disarmedBelow, rfl, rfl, fun ch => by rw [State.disarmedBelow_succ]; exact State.disarmsChannel _ ch⟩
    have disarm : s.disarm = (allChannels.foldl State.disarmChannel s).setMode .standby := by simp only [State.disarm, armed]
    generalize allChannels.foldl State.disarmChannel s = t at *
    have standby : t.setMode .standby = { t with modes := { s.modes with mode := .standby } } := by
      rw [← modes]; rfl
    rw [standby] at disarm
    refine ⟨s.disarm, ?_, ?_⟩
    · rw [run, if_pos armed]; rfl
    rw [disarm]
    refine ⟨rfl, ?_, fun ch away => released ch (Channel.released_of_not_energized away), own, kept,
      fun h => table fun ch a running hq free ge => h ch a running hq free ge, fun ch a running held => released ch fun b hb _ => ?_,
      each, fun ch a running hq free others => ?_, faults, monitor, store, loader, link, reset, pending⟩
    · obtain ⟨u, first, last, step⟩ := chain
      exact ⟨u, first, by rw [← last], step⟩
    · obtain rfl := Option.some.inj (running.symm.trans hb)
      exact held
    · obtain ⟨early, reached⟩ := ((s.disarmsChannel ch).2 a running hq).2 free
      rw [alone fun c hc => Channel.released_of_not_energized (others c hc)]
      exact ⟨fun lt => by rw [early lt], fun ge => ⟨_, rfl, reached ge⟩⟩
    · rcases u.disarmChannel_cases c with ⟨_, e⟩ | ⟨a, _, _, _, ⟨_, e⟩ | ⟨_, leaves⟩⟩
      · rw [e]; exact h p
      · rw [e]; exact h p
      · obtain ⟨draft, mark⟩ := leaves.table.1 p
        exact ⟨draft.trans (h p).1, mark.trans (h p).2⟩

end Sys2Proof.Machine
end


section
/-! Every channel stopped abruptly (R99): what the stops leave of each channel and of the table. -/

namespace Sys2Proof.Machine

/-! ### One end, item by item of the table -/

/-- Of the table the end of an actuation whose verdict is ABORTED moves no failure run. -/
theorem State.endActuation_run {s : State} {ch : ChannelId} {a : Actuation} (running : (s.channel ch).running = some a)
    {cause : EndCause} (aborted : ∀ fs, verdictOf cause fs = .aborted) (q : ProfileId) :
    ((s.endActuation ch cause).profile q).failureRun = (s.profile q).failureRun ∧
      ((s.endActuation ch cause).profile q).withheld = (s.profile q).withheld := by
  rw [State.endActuation_profile running cause q]
  show ((s.disengage a.profile a.gen _).profile q).failureRun = _ ∧ ((s.disengage a.profile a.gen _).profile q).withheld = _
  rw [show (s.endRecord ch a cause).verdict = .aborted from aborted _]
  by_cases other : q = a.profile
  · subst other
    rcases s.disengage_eq a.profile a.gen .aborted with ⟨v, _, _, _, e⟩ | ⟨v, _, _, _, e⟩ | ⟨_, _, e⟩ <;> rw [e]
    · rw [State.profile_setProfile_same]
      exact ⟨rfl, rfl⟩
    · rcases s.loseDraining_eq a.profile v with ⟨_, e⟩ | ⟨_, e⟩ <;> rw [e] <;> simp
    · exact ⟨rfl, rfl⟩
  · rw [s.disengage_profile_other _ _ other]
    exact ⟨rfl, rfl⟩

theorem State.endActuation_bindingCount {s : State} {ch : ChannelId} {a : Actuation} (running : (s.channel ch).running = some a)
    (cause : EndCause) (q : ProfileId) :
    ((s.endActuation ch cause).profile q).bindingCount =
      (s.profile q).bindingCount -
        ((s.channel ch).running.isSome && (s.channel ch).unbindPending && decide ((s.channel ch).binding = some q)).toNat := by
  rw [State.endActuation_profile running cause q, running]
  show s.settledCount ch q = _
  unfold State.settledCount
  by_cases hp : (s.channel ch).unbindPending = true <;> by_cases hb : (s.channel ch).binding = some q <;> simp [hp, hb]

/-- The entries that all draining versions hold, when one profile's entry is replaced. -/
theorem State.heldDraining_update {s t : State} (p : ProfileId) (others : ∀ q, q ≠ p → t.profile q = s.profile q) :
    t.heldDraining + versionSize (s.profile p).draining = s.heldDraining + versionSize (t.profile p).draining :=
  sum_map_update allProfiles nodup_allProfiles p (mem_allProfiles p) (fun q => versionSize (s.profile q).draining)
    (fun q => versionSize (t.profile q).draining) fun q hq => by rw [others q hq]

/-- What a draining version loses, the pool has. -/
theorem State.disengage_free (s : State) (p : ProfileId) (gen : Nat) (verdict : Verdict) :
    (s.disengage p gen verdict).free + versionSize ((s.disengage p gen verdict).profile p).draining =
      s.free + versionSize (s.profile p).draining := by
  rcases s.disengage_eq p gen verdict with ⟨v, _, _, _, e⟩ | ⟨v, draining, _, _, e⟩ | ⟨_, _, e⟩
  · obtain ⟨_, _, hdraining, _⟩ := Profile.count_frame
      ({ s.profile p with live := some { v with engaged := v.engaged - 1 } } : Profile) verdict
    rw [e, State.profile_setProfile_same, hdraining]
    rfl
  · rw [e, draining]
    rcases s.loseDraining_eq p v with ⟨_, e⟩ | ⟨_, e⟩ <;> rw [e]
    · rw [State.freeEntries_profile, State.profile_setProfile_same]
      rfl
    · simp [versionSize]
  · rw [e]

theorem State.endActuation_pool (s : State) (ch : ChannelId) (cause : EndCause) :
    (s.endActuation ch cause).free + (s.endActuation ch cause).heldDraining = s.free + s.heldDraining := by
  cases running : (s.channel ch).running with
  | none => rw [State.endActuation_of_not_running cause running]
  | some a =>
    have free := State.endActuation_free running cause
    have profile : ∀ q, ((s.endActuation ch cause).profile q).draining =
        ((s.disengage a.profile a.gen (s.endRecord ch a cause).verdict).profile q).draining := fun q => by
      rw [State.endActuation_profile running cause q]
    have moved := s.disengage_free a.profile a.gen (s.endRecord ch a cause).verdict
    have others := fun q (hq : q ≠ a.profile) => s.disengage_profile_other a.gen (s.endRecord ch a cause).verdict hq
    have update := State.heldDraining_update a.profile others
    have same : (s.endActuation ch cause).heldDraining =
        (s.disengage a.profile a.gen (s.endRecord ch a cause).verdict).heldDraining := by
      unfold State.heldDraining
      simp only [profile]
    rw [free, same]
    omega

/-! ### All of them -/

theorem length_filter_cons {α : Type} (p : α → Bool) (c : α) (l : List α) :
    ((c :: l).filter p).length = (p c).toNat + (l.filter p).length := by
  cases h : p c <;> simp [h, Nat.add_comm]

/-- The channels of a list stopped one after another take from a live version as many engagements as they had on it, and from a
profile's count as many bindings as they had pending. -/
theorem foldl_abruptStop_counts (cause : EndCause) (q : ProfileId) (l : List ChannelId) (nodup : l.Nodup) (s : State) :
    ((l.foldl (fun s ch => s.abruptStop cause ch) s).profile q).live =
      (s.profile q).live.map (fun v => { v with
        engaged := v.engaged - (l.filter fun c => (s.channel c).running.any fun a => a.runsOn q v.gen).length }) ∧
    ((l.foldl (fun s ch => s.abruptStop cause ch) s).profile q).bindingCount =
      (s.profile q).bindingCount -
        (l.filter fun c => (s.channel c).running.isSome && (s.channel c).unbindPending && decide ((s.channel c).binding = some q)).length := by
  induction l generalizing s with
  | nil => simp
  | cons c l ih =>
    obtain ⟨away, nodup⟩ := List.nodup_cons.mp nodup
    obtain ⟨live, count⟩ := ih nodup (s.abruptStop cause c)
    have others : ∀ d ∈ l, (s.abruptStop cause c).channel d = s.channel d := fun d mem =>
      (ChannelOnly.endActuation s c cause).channel d fun e => away (e ▸ mem)
    have first : ((s.abruptStop cause c).profile q).live = (s.profile q).live.map (fun v => { v with
        engaged := v.engaged - ((s.channel c).running.any fun a => a.runsOn q v.gen).toNat }) ∧
        ((s.abruptStop cause c).profile q).bindingCount = (s.profile q).bindingCount -
          ((s.channel c).running.isSome && (s.channel c).unbindPending && decide ((s.channel c).binding = some q)).toNat := by
      cases running : (s.channel c).running with
      | none =>
        rw [State.abruptStop, State.endActuation_of_not_running cause running]
        simp
      | some a => exact ⟨State.endActuation_live running cause q, by rw [← running]; exact State.endActuation_bindingCount running cause q⟩
    rw [List.foldl_cons, live, count, first.1, first.2]
    constructor
    · rw [Option.map_map]
      refine Option.map_congr fun v _ => ?_
      rw [length_filter_cons, ← Nat.sub_sub]
      show ({ v with engaged := _ - (l.filter fun d => _).length } : Version) = _
      rw [List.filter_congr fun d mem => by rw [others d mem]]
    · rw [length_filter_cons, ← Nat.sub_sub, List.filter_congr fun d mem => by rw [others d mem]]

/-- Every channel stopped, as the entry to SAFE, an onset and SOFT_RESET stop it (R64, R99, R101, R102). -/
theorem State.allStopped_stopAll (s : State) {cause : EndCause} (aborted : ∀ fs, verdictOf cause fs = .aborted) :
    s.AllStopped (s.stopAll cause) cause := by
  have only : ∀ (s : State) ch, ChannelOnly ch s (s.abruptStop cause ch) := fun s ch => ChannelOnly.endActuation s ch cause
  have folded : (allChannels.foldl (fun s ch => s.abruptStop cause ch) s) = s.stopAll cause := rfl
  have stopped := s.stopAll_running cause
  have turn (ch : ChannelId) := foldl_turn (fun s ch => s.abruptStop cause ch) only
    (fun u => u.faults = s.faults ∧ ∀ a, (s.channel ch).running = some a → (u.channel ch).running = some a ∧
      (TableAccounted s → TableAccounted u ∧ u.shapeOf a = s.shapeOf a)) s ch ⟨rfl, fun a running => ⟨running, fun h => ⟨h, rfl⟩⟩⟩
    fun u c other ⟨faults, runs⟩ => ⟨(only u c).faults.trans faults, fun a running => by
      obtain ⟨drives, accounts⟩ := runs a running
      refine ⟨by rw [(only u c).channel ch other.symm, drives], fun h => ?_⟩
      obtain ⟨accounted, shape⟩ := accounts h
      exact ⟨accounted.endActuation c cause, (State.shapeOf_endActuation accounted other drives cause).trans shape⟩⟩
  have counts := fun p => foldl_abruptStop_counts cause p allChannels nodup_allChannels s
  have kept := foldl_keeps (fun s ch => s.abruptStop cause ch)
    (fun u => (TableAccounted s → TableAccounted u) ∧ u.free + u.heldDraining = s.free + s.heldDraining ∧
      ∀ p, (u.profile p).draft = (s.profile p).draft ∧ (u.profile p).highWater = (s.profile p).highWater ∧
        (u.profile p).failureRun = (s.profile p).failureRun ∧ (u.profile p).withheld = (s.profile p).withheld)
    (fun u c ⟨accounted, pool, table⟩ => ?_) allChannels s ⟨id, rfl, fun _ => ⟨rfl, rfl, rfl, rfl⟩⟩
  · rw [folded] at kept
    simp only [folded] at turn counts
    generalize s.stopAll cause = t at *
    obtain ⟨accounted, pool, table⟩ := kept
    refine ⟨fun ch => ⟨fun idle => ?_, fun a running => ?_⟩, fun p => ?_, fun h => ?_⟩
    · obtain ⟨u, _, own, last⟩ := turn ch
      rw [State.abruptStop, State.endActuation_of_not_running cause (by rw [own.1, idle])] at last
      exact own.trans last
    · obtain ⟨u, ⟨faults, runs⟩, ⟨uc, us, ud⟩, tc, ts, td⟩ := turn ch
      obtain ⟨drives, accounts⟩ := runs a running
      obtain ⟨stage, diag⟩ := State.endActuation_drive drives cause
      have latched : u.chFault ch = s.chFault ch := by simp only [State.chFault, faults]
      refine ⟨u.endRecord ch a cause, rfl, aborted _, rfl, rfl, rfl, rfl, ?_, ?_, ?_, ?_, fun h => ?_⟩
      · show (u.channel ch).unread = _
        rw [uc]
      · show nextNumber (u.channel ch).outcome = _
        rw [uc]
        cases (s.channel ch).outcome <;> rfl
      · rw [tc, State.abruptStop, State.endActuation_channel_same drives cause, latched, uc]
        simp [Channel.settled, Channel.edgeFromLine]
      · rw [ts, State.abruptStop, stage, us]
      · rw [td, State.abruptStop, diag, State.settleUnit_diag drives, State.settleUnit_diag running, (accounts h).2, ud, us]
    · obtain ⟨draft, mark, run, withheld⟩ := table p
      obtain ⟨live, count⟩ := counts p
      exact ⟨draft, mark, run, withheld, live, count⟩
    · obtain ⟨_, _, draining, _⟩ := accounted h
      have none_drains : ∀ p, (t.profile p).draining = none := fun p => by
        cases drains : (t.profile p).draining with
        | none => rfl
        | some v =>
          obtain ⟨engaged, positive, _⟩ := draining p v drains
          obtain ⟨c, hc⟩ := (t.engagedTo_pos_iff p v.gen).mp (engaged ▸ positive)
          rw [Channel.engagement_of_idle (stopped c)] at hc
          cases hc
      refine ⟨none_drains, ?_⟩
      have held : t.heldDraining = 0 := by
        unfold State.heldDraining
        simp only [none_drains, versionSize]
        decide
      rw [← pool, held, Nat.add_zero]
  · refine ⟨fun h => (accounted h).endActuation c cause, (State.endActuation_pool u c cause).trans pool, fun p => ?_⟩
    obtain ⟨draft, mark⟩ := u.endActuation_kept c cause p
    obtain ⟨draft', mark', run', withheld'⟩ := table p
    cases running : (u.channel c).running with
    | none => rw [State.abruptStop, State.endActuation_of_not_running cause running]; exact table p
    | some a =>
      obtain ⟨run, withheld⟩ := State.endActuation_run running aborted p
      exact ⟨draft.trans draft', mark.trans mark', run.trans run', withheld.trans withheld'⟩

end Sys2Proof.Machine
end


section
/-! The entry to SAFE (R155, R156, R171). -/

namespace Sys2Proof.Machine

/-- The entry to SAFE stops the channels, ends STANDBY's session and sets the mode, and the order of these is not seen. -/
theorem State.enterSafe_eq_stopAll (s : State) :
    s.enterSafe =
      { s.stopAll .safeStop with
        modes := { s.modes with mode := .safe }
        store := if s.modes.mode = .standby then s.store.leaveStandby else s.store } := by
  obtain ⟨_, _, hfaults, hmonitor, hmodes, hstore, _, _⟩ := s.stopAll_rest .safeStop
  split
  next standby =>
    have stored := s.stopAll_withBlocks .safeStop s.monitor s.faults s.modes s.store.leaveStandby rfl
    have set : ({ s with store := s.store.leaveStandby } : State) =
      { s with monitor := s.monitor, faults := s.faults, modes := s.modes, store := s.store.leaveStandby } := rfl
    rw [s.enterSafe_eq.1 standby, set, stored]
    generalize s.stopAll .safeStop = t at *
    rw [← hfaults, ← hmonitor]
    rfl
  next away =>
    rw [s.enterSafe_eq.2 away]
    generalize s.stopAll .safeStop = t at *
    rw [← hmodes, ← hstore]
    rfl

theorem Store.leaveStandby_eq (st : Store) :
    st.leaveStandby =
      { st with session := if st.session = .isOpen then (if st.inFlight.isSome then .closing else .closed) else st.session } := by
  unfold Store.leaveStandby
  cases h : st.session <;> simp <;> rw [← h]

/-- Settles O46: the entry to SAFE is the stop of every channel, and each row that enters it does so from the modes that are left for it. -/
theorem safeEntryStopsEveryChannel : Obligations.SafeEntryStopsEveryChannel := by
  have sampled {s : State} (level : LineLevel) (running : s.inFullReset = false) :
      exec (match level with | .asserted => .nsafeAsserted | .deasserted => .nsafeDeasserted) s = .next (s.sampleNsafe level) := by
    cases level <;> exact congrArg Host.Outcome.next (if_neg (by rw [running]; exact Bool.false_ne_true))
  refine ⟨fun f s admits => ⟨fun safe => ?_, fun away => ?_⟩, fun s running u hu => ⟨fun loading => ?_, fun safe => ?_, fun loaded away => ?_⟩,
    fun s running => ?_, fun s => ?_⟩
  · refine congrArg Host.Outcome.next (linkCommand_owner admits rfl fun l => ?_)
    rw [safeStopPart, State.withLink_modes, if_pos safe]
    rfl
  · have link : s.enterSafe.link = s.link := by
      obtain ⟨_, _, _, _, _, _, _, link⟩ := s.stopAll_rest .safeStop
      rw [s.enterSafe_eq_stopAll]
      generalize s.stopAll .safeStop = t at *
      exact link
    refine congrArg Host.Outcome.next (linkCommand_owner admits link fun l => ?_)
    rw [safeStopPart, State.withLink_modes, if_neg away, State.enterSafe_withLink]
    rfl
  · subst hu
    rw [sampled .asserted running]
    rcases s.sampleNsafe_cases .asserted with ⟨h, _⟩ | ⟨_, _, e⟩ | ⟨_, safe, _⟩ | ⟨_, away, _, _⟩
    · cases h
    · rw [e]
    · rw [safe] at loading; cases loading
    · exact absurd loading away
  · subst hu
    rw [sampled .asserted running]
    rcases s.sampleNsafe_cases .asserted with ⟨h, _⟩ | ⟨_, loading, _⟩ | ⟨_, _, e⟩ | ⟨_, _, away, _⟩
    · cases h
    · rw [safe] at loading; cases loading
    · rw [e]; rfl
    · exact absurd safe away
  · subst hu
    rw [sampled .asserted running]
    rcases s.sampleNsafe_cases .asserted with ⟨h, _⟩ | ⟨_, loading, _⟩ | ⟨_, safe, _⟩ | ⟨_, _, _, e⟩
    · cases h
    · exact absurd loading loaded
    · exact absurd safe away
    · rw [e]; rfl
  · rw [sampled .deasserted running]
    rfl
  · obtain ⟨pending, reset, faults, monitor, _, _, loader, link⟩ := s.stopAll_rest .safeStop
    have stopped := s.allStopped_stopAll (cause := .safeStop) fun _ => rfl
    rw [s.enterSafe_eq_stopAll]
    generalize s.stopAll .safeStop = t at *
    refine ⟨rfl, stopped, faults, monitor, link, loader, reset, pending, ?_⟩
    show (if s.modes.mode = .standby then s.store.leaveStandby else s.store) = _
    rw [s.store.leaveStandby_eq]
    by_cases standby : s.modes.mode = .standby <;> simp [standby]

end Sys2Proof.Machine
end


section
/-! SOFT_RESET (R163), block by block. -/

namespace Sys2Proof.Machine

/-! ### A fold that works on each item by itself -/

/-- A fold over indices, each step replacing its own item and no other, replaces each item once. -/
theorem foldl_item {σ ι α : Type} {f : σ → ι → σ} {item : σ → ι → α} {g : ι → α → α} (own : ∀ s i, item (f s i) i = g i (item s i))
    (others : ∀ s i j, j ≠ i → item (f s i) j = item s j) {l : List ι} (nodup : l.Nodup) (s : σ) {j : ι} (mem : j ∈ l) :
    item (l.foldl f s) j = g j (item s j) := by
  have untouched : ∀ (l : List ι) (s : σ), j ∉ l → item (l.foldl f s) j = item s j := by
    intro l
    induction l with
    | nil => intros; rfl
    | cons i l ih =>
      intro s away
      rw [List.foldl_cons, ih _ fun mem => away (List.mem_cons_of_mem _ mem), others s i j fun e => away (e ▸ List.mem_cons_self ..)]
  induction l generalizing s with
  | nil => cases mem
  | cons i l ih =>
    obtain ⟨away, nodup⟩ := List.nodup_cons.mp nodup
    rw [List.foldl_cons]
    rcases List.mem_cons.mp mem with rfl | mem
    · rw [untouched l _ away, own]
    · rw [ih nodup _ mem, others s i j fun e => away (e ▸ mem)]

/-! ### The drafts (R24) -/

/-- A profile once its draft is discarded. -/
def Profile.discarded (e : Profile) : Profile := if e.draft.isSome then ({ e with draft := none } : Profile).clearIfAbsent else e

theorem State.softResetProfile_profile (s : State) (p q : ProfileId) :
    (s.softResetProfile p).profile q = if q = p then (s.profile p).discarded else s.profile q := by
  unfold State.softResetProfile Profile.discarded
  split
  · rw [State.discard, State.freeEntries_profile, State.profile_setProfile]
  · split
    next same => rw [same]
    next => rfl

/-- The discarding of a draft reaches the table and the pool. -/
theorem State.softResetProfile_frame (s : State) (p : ProfileId) :
    s.softResetProfile p =
      { s with profiles := (s.softResetProfile p).profiles, free := (s.softResetProfile p).free } := by
  unfold State.softResetProfile
  split <;> rfl

theorem State.softResetProfiles_frame (s : State) :
    allProfiles.foldl State.softResetProfile s =
      { s with
        profiles := (allProfiles.foldl State.softResetProfile s).profiles
        free := (allProfiles.foldl State.softResetProfile s).free } := by
  refine foldl_keeps State.softResetProfile (fun u => u = { s with profiles := u.profiles, free := u.free }) (fun u p h => ?_)
    allProfiles s rfl
  rw [u.softResetProfile_frame p]
  generalize (u.softResetProfile p).profiles = a
  generalize (u.softResetProfile p).free = b
  rw [h]

theorem State.softResetProfiles_profile (s : State) (p : ProfileId) :
    (allProfiles.foldl State.softResetProfile s).profile p = (s.profile p).discarded :=
  foldl_item (item := State.profile) (g := fun _ => Profile.discarded) (fun s i => by rw [State.softResetProfile_profile, if_pos rfl])
    (fun s i j other => by rw [State.softResetProfile_profile, if_neg other]) nodup_allProfiles s (mem_allProfiles p)

/-- What the discarding of its draft leaves of a profile. -/
theorem Profile.discarded_eq (e : Profile) :
    e.discarded.draft = none ∧ e.discarded.highWater = e.highWater ∧ e.discarded.bindingCount = e.bindingCount ∧
      e.discarded.live = e.live ∧ e.discarded.draining = e.draining ∧
      (e.discarded.failureRun = if e.live = none ∧ e.draft.isSome = true then 0 else e.failureRun) ∧
      (e.discarded.withheld = if e.live = none ∧ e.draft.isSome = true then false else e.withheld) := by
  unfold Profile.discarded
  cases draft : e.draft with
  | none => simp [draft]
  | some d =>
    cases live : e.live <;> simp [Profile.clearIfAbsent, Profile.state, Profile.cleared]

/-! ### The channels (R81, R104, R153) -/

/-- A channel's fault item at soft reset: its latches judged and its window 0. -/
def ChannelFault.softReset (f : ChannelFault) : ChannelFault := { f.clear with window := 0 }

/-- A channel's record, stage and fault item at soft reset. -/
def softResetItems (x : Channel × Stage × ChannelFault) : Channel × Stage × ChannelFault :=
  ({ x.1 with edgeArmed := !x.1.running.isSome && !x.2.2.softReset.latched && x.1.binding.isSome && x.1.edgeFromLine },
    { x.2.1 with mode := .off, target := 0, duty := 0 }, x.2.2.softReset)

theorem State.softResetChannels_items (s : State) (ch : ChannelId) :
    ((allChannels.foldl State.softResetChannel s).channel ch, (allChannels.foldl State.softResetChannel s).stage ch,
      (allChannels.foldl State.softResetChannel s).chFault ch) = softResetItems (s.channel ch, s.stage ch, s.chFault ch) := by
  refine foldl_item (f := State.softResetChannel) (item := fun s ch => (s.channel ch, s.stage ch, s.chFault ch)) (g := fun _ => softResetItems)
    (fun s i => ?_) (fun s i j other => ?_) nodup_allChannels s (mem_allChannels ch)
  · simp [State.softResetChannel, State.settleEdge, softResetItems, ChannelFault.softReset, State.ready, State.driving,
      Channel.edgeFromLine]
    rfl
  · simp [State.softResetChannel, State.settleEdge, State.channel_setChannel, State.stage_setStage, State.chFault_setChFault, other]

theorem State.softResetChannels_frame (s : State) :
    allChannels.foldl State.softResetChannel s =
      { s with
        channels := (allChannels.foldl State.softResetChannel s).channels
        stages := (allChannels.foldl State.softResetChannel s).stages
        faults := { s.faults with channels := (allChannels.foldl State.softResetChannel s).faults.channels } } := by
  refine foldl_keeps State.softResetChannel
    (fun u => u = { s with channels := u.channels, stages := u.stages, faults := { s.faults with channels := u.faults.channels } })
    (fun u ch h => ?_) allChannels s rfl
  have step : u.softResetChannel ch =
      { u with
        channels := (u.softResetChannel ch).channels, stages := (u.softResetChannel ch).stages
        faults := { u.faults with channels := (u.softResetChannel ch).faults.channels } } := rfl
  rw [step]
  generalize (u.softResetChannel ch).channels = a
  generalize (u.softResetChannel ch).stages = b
  generalize (u.softResetChannel ch).faults.channels = c
  rw [h]

/-! ### The soft reset and the link port -/

theorem foldl_withLink_of {α : Type} (f : State → α → State) (hf : ∀ s l x, f (s.withLink l) x = (f s x).withLink l) (xs : List α)
    (s : State) (l : LinkPort) : xs.foldl f (s.withLink l) = (xs.foldl f s).withLink l := by
  induction xs generalizing s with
  | nil => rfl
  | cons x xs ih => rw [List.foldl_cons, List.foldl_cons, hf, ih]

theorem State.softResetProfile_withLink (s : State) (l : LinkPort) (p : ProfileId) :
    (s.withLink l).softResetProfile p = (s.softResetProfile p).withLink l := by
  unfold State.softResetProfile
  rw [State.withLink_profile]
  split <;> rfl

/-- A soft reset reads nothing of the link port, and empties its receive buffer (R163, R193). -/
theorem State.softReset_withLink (s : State) (l : LinkPort) :
    (s.withLink l).softReset = s.softReset.withLink { l with received := [] } := by
  have flags (u : State) : (u.withLink l).clearDeviceFlags = u.clearDeviceFlags.withLink l := rfl
  rw [State.softReset_eq, State.softReset_eq, State.stopAll_withLink,
    foldl_withLink_of State.softResetProfile State.softResetProfile_withLink, flags,
    foldl_withLink_of State.softResetChannel fun _ _ _ => rfl]
  generalize allChannels.foldl State.softResetChannel _ = u
  rfl

/-! ### The part after a soft reset -/

/-- A part after a soft reset, seen from the one whose channels it stopped: the drafts gone, each channel, stage and fault item as
reset, the flags judged, the session ended and the mode chosen by the level of nSAFE. -/
structure SoftReset (u t : State) : Prop where
  profile : ∀ p, t.profile p = (u.profile p).discarded
  items : ∀ ch, (t.channel ch, t.stage ch, t.chFault ch) = softResetItems (u.channel ch, u.stage ch, u.chFault ch)
  diag : ∀ ch, t.diag ch = u.diag ch
  faults : t.faults = { u.clearDeviceFlags.faults with channels := t.faults.channels }
  monitor : t.monitor = u.monitor
  modes : t.modes = { u.modes with mode := if u.modes.nsafeSeen = .asserted then .safe else .standby }
  store : t.store = u.store.abandon
  loader : t.loader = u.loader
  inFullReset : t.inFullReset = u.inFullReset
  pending : t.pending = u.pending

theorem State.softReset_softReset (s : State) : SoftReset (s.stopAll .softReset) s.softReset := by
  rw [State.softReset_eq]
  generalize s.stopAll .softReset = u
  have profiles := u.softResetProfiles_profile
  have frame := u.softResetProfiles_frame
  generalize allProfiles.foldl State.softResetProfile u = v at *
  have items := v.clearDeviceFlags.softResetChannels_items
  have frame' := v.clearDeviceFlags.softResetChannels_frame
  generalize allChannels.foldl State.softResetChannel v.clearDeviceFlags = w at *
  have profile : ∀ p, w.profile p = (u.profile p).discarded := fun p => by rw [frame', ← profiles]; rfl
  have item : ∀ ch, (v.clearDeviceFlags.channel ch, v.clearDeviceFlags.stage ch, v.clearDeviceFlags.chFault ch) =
      (u.channel ch, u.stage ch, u.chFault ch) := fun ch => by rw [frame]; rfl
  refine ⟨profile, fun ch => (items ch).trans (by rw [item]), fun ch => ?_, ?_, ?_, ?_, ?_, ?_, ?_, ?_⟩
  · show w.diag ch = _
    rw [frame', frame]; rfl
  · show w.faults = { u.clearDeviceFlags.faults with channels := w.faults.channels }
    generalize w.faults.channels = c at *
    rw [frame', frame]; rfl
  · show w.monitor = _
    rw [frame', frame]; rfl
  · show ({ w.modes with mode := if w.modes.nsafeSeen = .asserted then .safe else .standby } : ModeControl) = _
    have : w.modes = u.modes := by rw [frame', frame]; rfl
    rw [this]
  · show w.store.abandon = _
    rw [frame', frame]; rfl
  · show w.loader = _
    rw [frame', frame]; rfl
  · show w.inFullReset = _
    rw [frame', frame]; rfl
  · show w.pending = _
    rw [frame', frame]; rfl

end Sys2Proof.Machine
end


section
/-! What SOFT_RESET leaves, read off the stops and the resets of the blocks. -/

namespace Sys2Proof.Machine

theorem linkCommand_softReset {f : Frame} {s : State} (h : s.admits .softReset f) :
    linkCommand .softReset f s softResetPart =
      s.softReset.withLink { s.link with
        received := [], frameOpen := false, shifted := 96
        prepared := { result := .ok, code := commandCode .softReset, tag := some (frameTag f), data := {} } } := by
  have closed := congrArg State.link (State.prepare_closeFrame h.2.1 .softReset f .ok {})
  rw [linkCommand_admitted softResetPart h rfl, State.closeFrame_eq_withLink, State.softReset_withLink]
  generalize s.softReset = t
  generalize hl : (s.closeFrame (bytesBits (frameBytes (commandCode .softReset) f))).link = l at *
  have prepared : { l with prepared := { result := .ok, code := commandCode .softReset, tag := some (frameTag f), data := {} } } =
      (s.replied .softReset f .ok {}).link := by
    rw [← closed, ← hl]
    rfl
  show t.withLink { { l with prepared := _ } with received := [] } = _
  rw [prepared]
  rfl

/-- A soft reset keeps the pool's account (R30). -/
theorem PoolAccounted.softReset {s : State} (h : PoolAccounted s) : PoolAccounted s.softReset := by
  have stops : PoolAccounted (s.stopAll .softReset) :=
    foldl_keeps (fun s ch => s.abruptStop .softReset ch) PoolAccounted
      (fun u c hu => poolAccounted_tableProperty.endActuation c .softReset hu) allChannels s h
  have discards := foldl_keeps State.softResetProfile PoolAccounted
    (fun u p hu => by
      unfold State.softResetProfile
      split
      · exact hu.tableMove (.discard u p)
      · exact hu) allProfiles _ stops
  rw [State.softReset_eq]
  generalize allProfiles.foldl State.softResetProfile (s.stopAll .softReset) = v at *
  have frame := v.clearDeviceFlags.softResetChannels_frame
  generalize allChannels.foldl State.softResetChannel v.clearDeviceFlags = w at *
  exact discards.congr (by rw [frame]; rfl) (by rw [frame]; rfl)

theorem Store.abandon_eq (st : Store) :
    st.abandon = { st with
      session := .closed, inFlight := none
      lastResult := match st.inFlight with
        | none => st.lastResult
        | some w => .abandoned w.slot w.copy } := by
  unfold Store.abandon
  cases st.inFlight <;> rfl

/-- Settles O47, block by block: the stop of every channel, then each block's reset. -/
theorem softResetKeepsWhatWasTaught : Obligations.SoftResetKeepsWhatWasTaught := by
  intro f s admits
  have stopped := s.allStopped_stopAll (cause := .softReset) fun _ => rfl
  have reset := s.softReset_softReset
  obtain ⟨pending, inReset, faults, monitor, modes, store, loader, _⟩ := s.stopAll_rest .softReset
  have pool : PoolAccounted s → PoolAccounted s.softReset := PoolAccounted.softReset
  refine ⟨_, congrArg Host.Outcome.next (linkCommand_softReset admits), ?_⟩
  generalize s.softReset = t at *
  generalize s.stopAll .softReset = u at *
  obtain ⟨channels, profiles, table⟩ := stopped
  have chFault : ∀ ch, u.chFault ch = s.chFault ch := fun ch => by simp only [State.chFault, faults]
  have items : ∀ ch, t.channel ch = (softResetItems (u.channel ch, u.stage ch, s.chFault ch)).1 ∧
      t.stage ch = { u.stage ch with mode := .off, target := 0, duty := 0 } ∧ t.chFault ch = (s.chFault ch).softReset := fun ch => by
    have item := reset.items ch
    rw [chFault] at item
    simp only [softResetItems, Prod.mk.injEq] at item
    exact item
  have fault : ∀ ch, (s.chFault ch).softReset =
      { s.chFault ch with
        overcurrent := (s.chFault ch).overcurrent && (s.chFault ch).overcurrentPresent
        openLoad := (s.chFault ch).openLoad && decide ((s.chFault ch).pull = .outOfBand)
        window := 0 } := fun ch => rfl
  have flags : t.faults = { s.clearDeviceFlags.faults with channels := t.faults.channels } := by
    rw [reset.faults]
    simp only [State.clearDeviceFlags, faults, monitor]
  have discarded : ∀ p, (t.profile p).draft = none ∧ (t.profile p).draining = (u.profile p).draining := fun p => by
    rw [reset.profile p]
    obtain ⟨draft, _, _, _, draining, _⟩ := (u.profile p).discarded_eq
    exact ⟨draft, draining⟩
  refine ⟨by rw [← modes]; exact reset.modes, fun ch => ?_, fun p => ?_, by rw [State.withLink_faults, flags]; rfl,
    by rw [State.withLink_faults, flags]; rfl, by rw [State.withLink_faults, flags]; rfl,
    by rw [State.withLink_faults, flags]; rfl, by rw [State.withLink_faults, flags]; rfl, by rw [State.withLink_faults, flags]; rfl,
    reset.monitor.trans monitor, reset.loader.trans loader, reset.inFullReset.trans inReset, reset.pending.trans pending,
    reset.store.trans (store ▸ Store.abandon_eq u.store), rfl, fun accounted counted => ?_⟩
  · obtain ⟨channel, stage, chFault⟩ := items ch
    obtain ⟨idle, running⟩ := channels ch
    simp only [State.withLink_channel, State.withLink_stage, State.withLink_chFault, State.withLink_diag]
    have kept_stage : ({ u.stage ch with mode := .off, target := 0, duty := 0 } : Stage) =
        { s.stage ch with mode := .off, target := 0, duty := 0 } := by
      cases drives : (s.channel ch).running with
      | none => rw [(idle drives).2.1]
      | some a => obtain ⟨_, _, _, _, _, _, _, _, _, _, same, _⟩ := running a drives; rw [same]
    refine ⟨fun consistent => ?_, fun drops armed hdrops harmed => ⟨fun none_ => ?_, fun drives => ?_⟩, stage.trans kept_stage,
      chFault.trans (fault ch), fun none_ => (reset.diag ch).trans (idle none_).2.2⟩
    · rw [channel]
      show (u.channel ch).unbindPending = false
      cases drives : (s.channel ch).running with
      | none =>
        rw [(idle drives).1, Bool.eq_false_iff]
        intro pends
        have := (consistent ch).2.2.2 pends
        rw [drives] at this
        cases this
      | some a => obtain ⟨_, _, _, _, _, _, _, _, _, same, _⟩ := running a drives; rw [same]
    · rw [channel, harmed, hdrops, (idle none_).1, chFault]
      simp [softResetItems, none_, Channel.edgeFromLine]
    · obtain ⟨a, ha⟩ := Option.isSome_iff_exists.mp drives
      obtain ⟨r, cause, verdict, _, _, _, _, _, _, same, _⟩ := running a ha
      refine ⟨r, cause, verdict, ?_⟩
      rw [channel, harmed, hdrops, same, chFault]
      cases hp : (s.channel ch).unbindPending <;> simp [softResetItems, ha, Channel.edgeFromLine]
  · obtain ⟨drafts, mark, run, withheld, live, count⟩ := profiles p
    obtain ⟨_, hmark, hcount, hlive, _, hrun, hwithheld⟩ := (u.profile p).discarded_eq
    rw [State.withLink_profile]
    refine ⟨(discarded p).1, ?_⟩
    rw [reset.profile p, hmark, hcount, hlive, hrun, hwithheld, live, drafts]
    refine ⟨mark, count, fun none_ => ?_, fun v some_ => ?_⟩
    · rw [none_]
      exact ⟨rfl, fun draft => by simp [draft], fun draft => by simp [draft, run, withheld]⟩
    · rw [some_]
      simp [run, withheld]
  · obtain ⟨drained, _⟩ := table counted
    have none_drains : ∀ p, (t.profile p).draining = none := fun p => (discarded p).2.trans (drained p)
    refine ⟨none_drains, ?_⟩
    have account : t.free + t.heldLive + t.heldDrafts + t.heldDraining = Config.poolSize := pool accounted
    have drafts : t.heldDrafts = 0 := by
      unfold State.heldDrafts
      simp only [fun p => (discarded p).1, draftSize]
      decide
    have draining : t.heldDraining = 0 := by
      unfold State.heldDraining
      simp only [none_drains, versionSize]
      decide
    have size : Config.poolSize = 160 := rfl
    have same : ∀ l, (t.withLink l).heldLive = t.heldLive := fun _ => rfl
    rw [State.withLink_free, same]
    omega

end Sys2Proof.Machine
end


section
/-! The power-up load (R22, R162, R166, R167, R179 to R181), slot by slot. -/

namespace Sys2Proof.Machine

/-! ### Copies (R166, R167) -/

/-- The last of the values that a list's entries have is that of the last entry with one. -/
theorem getLast?_filterMap_eq_some_iff {α β : Type} (f : α → Option β) (l : List α) (b : β) :
    (l.filterMap f).getLast? = some b ↔
      ∃ (i : Nat) (a : α), l[i]? = some a ∧ f a = some b ∧ ∀ (j : Nat) a', i < j → l[j]? = some a' → f a' = none := by
  constructor
  · intro last
    obtain ⟨values, split⟩ := List.getLast?_eq_some_iff.mp last
    obtain ⟨l₁, l₂, rfl, _, tail⟩ := List.filterMap_eq_append_iff.mp split
    obtain ⟨l₃, a, l₄, rfl, _, here, rest⟩ := List.filterMap_eq_cons_iff.mp tail
    refine ⟨(l₁ ++ l₃).length, a, by simp, here, fun j a' later at_ => ?_⟩
    rw [← List.append_assoc, List.getElem?_append_right (by omega)] at at_
    obtain ⟨k, hk⟩ : ∃ k, j - (l₁ ++ l₃).length = k + 1 := ⟨j - (l₁ ++ l₃).length - 1, by omega⟩
    rw [hk, List.getElem?_cons_succ] at at_
    exact List.filterMap_eq_nil_iff.mp rest a' (List.mem_of_getElem? at_)
  · rintro ⟨i, a, at_, here, later⟩
    obtain ⟨lt, rfl⟩ := List.getElem?_eq_some_iff.mp at_
    have rest : (l.drop (i + 1)).filterMap f = [] := List.filterMap_eq_nil_iff.mpr fun a' mem => by
      obtain ⟨k, hk⟩ := List.mem_iff_getElem?.mp mem
      exact later (i + 1 + k) a' (by omega) (by rwa [List.getElem?_drop] at hk)
    rw [← List.take_append_drop i l, List.drop_eq_getElem_cons lt, List.filterMap_append, List.filterMap_cons_some here, rest]
    simp

theorem fitsSlot_iff (slot : Slot) (content : CopyContent) :
    fitsSlot slot content = true ↔
      match content with
      | .profile id _ sh => slot.val = id.val ∧ 1 ≤ sh.energize.length ∧ sh.energize.length ≤ 6 ∧ sh.release.length ≤ 2
      | .map _ _ => slot = 32
      | .lockMark => slot = 33 := by
  cases content with
  | profile id gen sh =>
    simp only [fitsSlot, Bool.and_eq_true, decide_eq_true_eq, within_iff, Config.maxEnergize, Config.maxRelease, Fin.ext_iff,
      profileSlot]
    omega
  | map entries arm => exact decide_eq_true_iff
  | lockMark => exact decide_eq_true_iff

theorem validContent_eq_some_iff (slot : Slot) (cell : Cell) (content : CopyContent) :
    validContent slot cell = some content ↔
      cell = .written content (crc16 (contentBytes content)) ∧ fitsSlot slot content = true := by
  cases cell with
  | blank => simp [validContent]
  | partlyWritten => simp [validContent]
  | written c check =>
    simp only [validContent]
    rw [Option.ite_none_right_eq_some, Option.some.injEq, Cell.written.injEq]
    constructor
    · rintro ⟨⟨rfl, fits⟩, rfl⟩
      exact ⟨⟨rfl, rfl⟩, fits⟩
    · rintro ⟨⟨rfl, word⟩, fits⟩
      exact ⟨⟨word, fits⟩, rfl⟩

theorem cellState_eq_ite (slot : Slot) (cell : Cell) :
    cellState slot cell = if cell = .blank then .blank else if (validContent slot cell).isSome then .valid else .spoiled := by
  cases cell <;> simp [cellState, validContent]

theorem crc16_append (bs : List Byte) (b : Byte) :
    crc16 (bs ++ [b]) =
      Nat.repeat (fun r : BitVec 16 => if r.msb then (r <<< 1) ^^^ 0x1021 else r <<< 1) 8 (crc16 bs ^^^ (b ++ 0#8)) := by
  have high : ∀ b : Byte, b.setWidth 16 <<< 8 = b ++ 0#8 := by decide
  rw [crc16, List.foldl_append, List.foldl_cons, List.foldl_nil, crc16Byte, high]
  rfl

/-! ### The profile slots (R22, R179) -/

theorem State.loading_iff (s : State) : s.loading = true ↔ s.inFullReset = false ∧ s.modes.mode = .loading := by
  simp [State.loading]

theorem execLoadProfileSlot_eq {s : State} {p : ProfileId} (running : s.inFullReset = false) (loading : s.modes.mode = .loading)
    (next : s.loader.next = p.val) : exec .loadProfileSlot s = .next (s.loadProfile p).nextSlot := by
  have place : (⟨s.loader.next, next ▸ p.isLt⟩ : ProfileId) = p := Fin.ext next
  show execLoadProfileSlot s = _
  rw [execLoadProfileSlot, dif_pos (next ▸ p.isLt), if_pos (s.loading_iff.mpr ⟨running, loading⟩), place]

/-! ### The map slot (R180) -/

theorem State.applySettings_eq (s : State) (ch : ChannelId) (t : TriggerSource) (check : Bool) :
    s.applySettings ch t check =
      (s.setChannel ch { s.channel ch with trigger := t, openLoadCheck := check }).setChFault ch
        (if check then s.chFault ch else { s.chFault ch with pull := .notRunning, window := 0 }) := by
  unfold State.applySettings
  cases check with
  | true => exact (State.setChFault_self _ ch).symm
  | false => rfl

/-- Whether a map copy binds a channel, and to which id: to one that loaded (R180). -/
def MapEntry.takes (m : MapEntry) (loaded : Vector Bool 32) (p : ProfileId) : Bool := decide (m.binding = some p) && loaded.get p

/-- A channel's record as a map copy leaves it. -/
def Channel.mapped (c : Channel) (latched : Bool) (loaded : Vector Bool 32) (m : MapEntry) : Channel :=
  { c with
    trigger := m.trigger, openLoadCheck := m.openLoadCheck
    binding := match m.binding with
      | none => c.binding
      | some p => if loaded.get p then some p else c.binding
    edgeArmed := match m.binding with
      | none => c.edgeArmed
      | some p => if loaded.get p then c.running.isNone && !latched && decide (c.ctlSeen = .deasserted) else c.edgeArmed }

/-- A channel's fault item as a map copy leaves it. -/
def ChannelFault.mapped (f : ChannelFault) (m : MapEntry) : ChannelFault :=
  if m.openLoadCheck then f else { f with pull := .notRunning, window := 0 }

theorem ChannelFault.mapped_latched (f : ChannelFault) (m : MapEntry) : (f.mapped m).latched = f.latched := by
  unfold ChannelFault.mapped
  split <;> rfl

/-- A channel bound by the loader, its edge-armed flag set from its line (R73). -/
theorem State.bindTo_settleEdge_channel (s : State) (ch : ChannelId) (p : ProfileId) :
    ((s.bindTo ch p).settleEdge ch).channel ch =
      { s.channel ch with
        binding := some p
        edgeArmed := (s.channel ch).running.isNone && !(s.chFault ch).latched && decide ((s.channel ch).ctlSeen = .deasserted) } := by
  have fault : (s.bindTo ch p).chFault ch = s.chFault ch := by rw [s.bindTo_frame ch p]; rfl
  simp [State.settleEdge, State.ready, State.driving, Channel.edgeFromLine, s.bindTo_channel_same ch p, fault]

theorem State.bindTo_settleEdge_frame (s : State) (ch : ChannelId) (p : ProfileId) :
    (s.bindTo ch p).settleEdge ch =
      { s with profiles := (s.bindTo ch p).profiles, channels := ((s.bindTo ch p).settleEdge ch).channels } := by
  have frame := s.bindTo_frame ch p
  generalize s.bindTo ch p = u at *
  have edge : u.settleEdge ch = { u with channels := (u.settleEdge ch).channels } := rfl
  rw [edge]
  generalize (u.settleEdge ch).channels = channels
  rw [frame]

theorem ChannelOnly.bindTo (s : State) (ch : ChannelId) (p : ProfileId) : ChannelOnly ch s (s.bindTo ch p) := by
  unfold State.bindTo
  split
  · exact .refl ch s
  · exact ((ChannelOnly.removeBinding s ch).trans (.setProfile _ ch p _)).trans (.setChannel _ ch _)

/-- What a map copy does at a channel: its settings, and the binding to an id that loaded (R180). -/
theorem State.applyMapEntry_cases (s : State) (ch : ChannelId) (m : MapEntry) :
    ((∀ p, m.takes s.loader.loaded p = false) ∧ s.applyMapEntry ch m = s.applySettings ch m.trigger m.openLoadCheck) ∨
      ∃ p, m.binding = some p ∧ s.loader.loaded.get p = true ∧
        s.applyMapEntry ch m = ((s.applySettings ch m.trigger m.openLoadCheck).bindTo ch p).settleEdge ch := by
  have loader : (s.applySettings ch m.trigger m.openLoadCheck).loader = s.loader := by rw [State.applySettings_eq]; rfl
  simp only [State.applyMapEntry, MapEntry.takes, loader]
  cases m.binding with
  | none => exact .inl ⟨fun _ => rfl, rfl⟩
  | some p =>
    cases loaded : s.loader.loaded.get p with
    | false =>
      refine .inl ⟨fun q => ?_, by simp [loaded]⟩
      by_cases same : p = q
      · subst same; simp [loaded]
      · simp [same]
    | true => exact .inr ⟨p, rfl, loaded, by simp [loaded]⟩

theorem State.applyMapEntry_own (s : State) (ch : ChannelId) (m : MapEntry) :
    (s.applyMapEntry ch m).channel ch = (s.channel ch).mapped (s.chFault ch).latched s.loader.loaded m ∧
      (s.applyMapEntry ch m).chFault ch = (s.chFault ch).mapped m := by
  have settings := s.applySettings_eq ch m.trigger m.openLoadCheck
  rw [← ChannelFault.mapped] at settings
  rcases s.applyMapEntry_cases ch m with ⟨none_, e⟩ | ⟨p, binding, loaded, e⟩ <;> rw [e, settings]
  · refine ⟨?_, by simp⟩
    have unbound : ∀ p, m.binding = some p → ¬ s.loader.loaded.get p = true := fun p binding loaded => by
      have := none_ p
      simp [MapEntry.takes, binding, loaded] at this
    unfold Channel.mapped
    cases binding : m.binding with
    | none => simp
    | some p => simp [unbound p binding]
  · refine ⟨?_, ?_⟩
    · rw [State.bindTo_settleEdge_channel]
      simp [Channel.mapped, binding, loaded, (s.chFault ch).mapped_latched m]
    · rw [State.bindTo_settleEdge_frame]
      exact State.chFault_setChFault_same _ ch _

/-- The bindings of a map copy reach their channel, its fault item and the binding counts. -/
theorem State.applyMapEntry_frame (s : State) (ch : ChannelId) (m : MapEntry) :
    s.applyMapEntry ch m =
      { s with
        profiles := (s.applyMapEntry ch m).profiles, channels := (s.applyMapEntry ch m).channels
        faults := { s.faults with channels := (s.applyMapEntry ch m).faults.channels } } := by
  have settings := s.applySettings_eq ch m.trigger m.openLoadCheck
  rcases s.applyMapEntry_cases ch m with ⟨_, e⟩ | ⟨p, _, _, e⟩ <;> rw [e, settings]
  · rfl
  · rw [State.bindTo_settleEdge_frame]
    rfl

theorem State.applyMapEntry_others (s : State) {ch c : ChannelId} (m : MapEntry) (other : c ≠ ch) :
    (s.applyMapEntry ch m).channel c = s.channel c ∧ (s.applyMapEntry ch m).chFault c = s.chFault c := by
  have settings := s.applySettings_eq ch m.trigger m.openLoadCheck
  rcases s.applyMapEntry_cases ch m with ⟨_, e⟩ | ⟨p, _, _, e⟩ <;> rw [e, settings]
  · simp [State.channel_setChannel, State.chFault_setChFault, other]
  · generalize hu : (State.setChFault _ ch _) = u
    have same : u.channel c = s.channel c ∧ u.chFault c = s.chFault c := by
      rw [← hu]
      simp [State.channel_setChannel, State.chFault_setChFault, other]
    obtain ⟨channel, fault⟩ := same
    refine ⟨?_, by rw [State.bindTo_settleEdge_frame]; exact fault⟩
    rw [State.settleEdge, State.channel_setChannel, if_neg other, (ChannelOnly.bindTo u ch p).channel c other, channel]

/-- The count of a profile's bindings as a map copy binds one unbound channel (R6). -/
theorem State.applyMapEntry_profile {s : State} {ch : ChannelId} (unbound : (s.channel ch).binding = none) (m : MapEntry)
    (p : ProfileId) :
    (s.applyMapEntry ch m).profile p =
      { s.profile p with bindingCount := (s.profile p).bindingCount + (m.takes s.loader.loaded p).toNat } := by
  have settings := s.applySettings_eq ch m.trigger m.openLoadCheck
  rcases s.applyMapEntry_cases ch m with ⟨none_, e⟩ | ⟨q, binding, loaded, e⟩ <;> rw [e, settings]
  · rw [none_ p]; rfl
  · generalize hu : (State.setChFault _ ch _) = u
    have own : (u.channel ch).binding = none ∧ u.profile = s.profile := by
      rw [← hu]
      exact ⟨by simpa using unbound, rfl⟩
    obtain ⟨still, profile⟩ := own
    have bound : u.bindTo ch q = (u.countBinding q).setChannel ch { u.channel ch with binding := some q } := by
      have removed : u.removeBinding ch = u := by
        rcases u.removeBinding_eq ch with ⟨_, e⟩ | ⟨r, hr, _⟩
        · exact e
        · rw [still] at hr; cases hr
      unfold State.bindTo
      rw [still, if_neg (by simp), removed]
    rw [bound]
    show (u.countBinding q).profile p = _
    rw [State.countBinding, State.profile_setProfile, profile, MapEntry.takes, binding]
    by_cases same : p = q
    · subst same; simp [loaded]
    · have other : ¬ q = p := fun e => same e.symm
      simp [same, other]

/-! ### The map copy over the channels -/

theorem State.applyMap_frame (s : State) (entries : Vector MapEntry 8) :
    s.applyMap entries =
      { s with
        profiles := (s.applyMap entries).profiles, channels := (s.applyMap entries).channels
        faults := { s.faults with channels := (s.applyMap entries).faults.channels } } := by
  refine foldl_keeps (fun s ch => s.applyMapEntry ch (entries.get ch))
    (fun u => u = { s with
      profiles := u.profiles, channels := u.channels, faults := { s.faults with channels := u.faults.channels } })
    (fun u ch h => ?_) allChannels s rfl
  show u.applyMapEntry ch (entries.get ch) = _
  rw [u.applyMapEntry_frame ch (entries.get ch)]
  generalize (u.applyMapEntry ch (entries.get ch)).profiles = a
  generalize (u.applyMapEntry ch (entries.get ch)).channels = b
  generalize (u.applyMapEntry ch (entries.get ch)).faults.channels = c
  rw [h]

theorem State.applyMapEntry_loader (s : State) (ch : ChannelId) (m : MapEntry) : (s.applyMapEntry ch m).loader = s.loader := by
  rw [s.applyMapEntry_frame ch m]

theorem State.applyMap_own (s : State) (entries : Vector MapEntry 8) (ch : ChannelId) :
    (s.applyMap entries).channel ch = (s.channel ch).mapped (s.chFault ch).latched s.loader.loaded (entries.get ch) ∧
      (s.applyMap entries).chFault ch = (s.chFault ch).mapped (entries.get ch) := by
  have item := foldl_item (f := fun s ch => s.applyMapEntry ch (entries.get ch))
    (item := fun s ch => (s.channel ch, s.chFault ch, s.loader.loaded))
    (g := fun ch x => (x.1.mapped x.2.1.latched x.2.2 (entries.get ch), x.2.1.mapped (entries.get ch), x.2.2))
    (fun s ch => by rw [(s.applyMapEntry_own ch _).1, (s.applyMapEntry_own ch _).2, s.applyMapEntry_loader])
    (fun s ch c other => by
      rw [(s.applyMapEntry_others _ other).1, (s.applyMapEntry_others _ other).2, s.applyMapEntry_loader])
    nodup_allChannels s (mem_allChannels ch)
  simp only [Prod.mk.injEq] at item
  exact ⟨item.1, item.2.1⟩

/-- The counts that a map copy gives where no channel was bound before it (R6). -/
theorem foldl_applyMapEntry_profile (entries : Vector MapEntry 8) (p : ProfileId) (l : List ChannelId) (nodup : l.Nodup) (s : State)
    (unbound : ∀ ch ∈ l, (s.channel ch).binding = none) :
    (l.foldl (fun s ch => s.applyMapEntry ch (entries.get ch)) s).profile p =
      { s.profile p with
        bindingCount := (s.profile p).bindingCount + (l.filter fun ch => (entries.get ch).takes s.loader.loaded p).length } := by
  induction l generalizing s with
  | nil => rfl
  | cons ch l ih =>
    obtain ⟨away, nodup⟩ := List.nodup_cons.mp nodup
    obtain ⟨first, rest⟩ := List.forall_mem_cons.mp unbound
    rw [List.foldl_cons, ih nodup _ fun c mem => ?_, State.applyMapEntry_profile first, State.applyMapEntry_loader, length_filter_cons,
      ← Nat.add_assoc]
    rw [(s.applyMapEntry_others _ (fun e : c = ch => away (e ▸ mem))).1]
    exact rest c mem

/-- What the map slot's work leaves, where it applies a copy and where it does not (R180). -/
theorem State.loadMap_cases (s : State) :
    (s.store.newestValid 32 = none ∧ s.loadMap = s.recordSlot mapSlot) ∨
      (∃ entries arm, s.store.newestValid 32 = some (.map entries arm) ∧
        s.loadMap =
          { (s.recordSlot mapSlot).applyMap entries with
            loader := { s.loader with request := if arm && noneDropped s.loader.loaded entries then .armAtStart else .stay } }) ∨
      ((∀ entries arm, s.store.newestValid 32 ≠ some (.map entries arm)) ∧ s.loadMap = s.recordSlot mapSlot) := by
  have same : (s.recordSlot mapSlot).store.newestValid mapSlot = s.store.newestValid 32 := rfl
  unfold State.loadMap
  simp only [same]
  cases newest : s.store.newestValid 32 with
  | none => exact .inl ⟨rfl, rfl⟩
  | some content =>
    cases content with
    | map entries arm =>
      refine .inr (.inl ⟨entries, arm, rfl, ?_⟩)
      have loader : ((s.recordSlot mapSlot).applyMap entries).loader = s.loader := by rw [State.applyMap_frame]; rfl
      simp only [loader]
      rfl
    | profile id gen sh => exact .inr (.inr ⟨nofun, rfl⟩)
    | lockMark => exact .inr (.inr ⟨nofun, rfl⟩)

theorem noneDropped_iff (loaded : Vector Bool 32) (entries : Vector MapEntry 8) :
    noneDropped loaded entries = true ↔ ∀ ch p, (entries.get ch).binding = some p → loaded.get p = true := by
  simp only [noneDropped, List.all_eq_true, Option.all_eq_true]
  exact ⟨fun h ch p => h ch (mem_allChannels ch) p, fun h ch _ p => h ch p⟩

theorem Channel.mapped_eq (c : Channel) (latched : Bool) (loaded : Vector Bool 32) (m : MapEntry) (takes : ProfileId → Bool)
    (h : ∀ p, takes p = m.takes loaded p) :
    c.mapped latched loaded m =
      { c with
        trigger := m.trigger, openLoadCheck := m.openLoadCheck
        binding := match m.binding with
          | none => c.binding
          | some p => if loaded.get p then some p else c.binding
        edgeArmed := if ∃ p, takes p = true then c.running.isNone && !latched && decide (c.ctlSeen = .deasserted)
          else c.edgeArmed } := by
  have taken : (∃ p, takes p = true) ↔ ∃ p, m.binding = some p ∧ loaded.get p = true := by
    simp only [h, MapEntry.takes, Bool.and_eq_true, decide_eq_true_eq]
  simp only [taken, Channel.mapped]
  cases m.binding with
  | none => simp
  | some p => cases hl : loaded.get p <;> simp [hl]

/-- Settles O51: each slot's work by the highest-numbered valid copy, and what a copy is by its check word and its kind. -/
theorem loaderWorksThroughTheSlots : Obligations.LoaderWorksThroughTheSlots := by
  refine ⟨fun s p st running loading next hst => ?_, fun s running loading next => ?_, fun s running loading next => ?_,
    fun st slot content => getLast?_filterMap_eq_some_iff _ _ _, fun slot cell content => ?_, cellState_eq_ite, rfl, crc16_append⟩
  · rw [execLoadProfileSlot_eq running loading next]
    subst hst
    have same : (s.recordSlot (profileSlot p)).store.newestValid (profileSlot p) = s.store.newestValid (profileSlot p) := rfl
    have step : ∀ u t : State, u.loader.next = p.val → { u with loader := { u.loader with next := p.val + 1 } } = t →
        Host.Outcome.next u.nextSlot = (.next t : Out) := fun u t h left_ => by rw [← left_, ← h]; rfl
    refine ⟨fun none_ => ?_, fun q gen sh newest absent => ⟨fun want => ?_, fun room => ?_⟩⟩
    · simp only [State.loadProfile, same, none_]
      refine step _ _ ?_ ?_
      · exact next
      · rfl
    · have refused : (s.recordSlot (profileSlot p)).fill p gen sh = s.recordSlot (profileSlot p) := if_pos (.inr want)
      simp only [State.loadProfile, same, newest, refused]
      refine step _ _ ?_ ?_
      · exact next
      · rfl
    · have taken : ¬ (((s.recordSlot (profileSlot p)).profile p).live.isSome = true ∨ (s.recordSlot (profileSlot p)).free < sh.size) := by
        have live : ((s.recordSlot (profileSlot p)).profile p).live = none := absent
        have free : (s.recordSlot (profileSlot p)).free = s.free := rfl
        rw [live, free]
        simp only [Option.isSome_none, Bool.false_eq_true, false_or]
        omega
      simp only [State.loadProfile, same, newest, State.fill, if_neg taken]
      refine step _ _ ?_ ?_
      · exact next
      · rfl
  · have run : exec .loadMapSlot s = .next s.loadMap.nextSlot :=
      congrArg Host.Outcome.next (if_pos ⟨s.loading_iff.mpr ⟨running, loading⟩, next⟩)
    refine ⟨_, run, ?_⟩
    rcases s.loadMap_cases with ⟨none_, e⟩ | ⟨entries, arm, newest, e⟩ | ⟨no_map, e⟩
    · rw [e]
      exact ⟨congrArg Nat.succ next, rfl, rfl, rfl, rfl, rfl, rfl, rfl, rfl, rfl, rfl, fun _ => ⟨rfl, rfl, rfl, rfl⟩,
        fun entries arm newest => absurd (none_.symm.trans newest) nofun⟩
    · have frame := (s.recordSlot mapSlot).applyMap_frame entries
      have own := (s.recordSlot mapSlot).applyMap_own entries
      have counts := fun p => foldl_applyMapEntry_profile entries p allChannels nodup_allChannels (s.recordSlot mapSlot)
      rw [e]
      have folded : allChannels.foldl (fun s ch => s.applyMapEntry ch (entries.get ch)) (s.recordSlot mapSlot) =
        (s.recordSlot mapSlot).applyMap entries := rfl
      rw [folded] at counts
      generalize (s.recordSlot mapSlot).applyMap entries = u at *
      refine ⟨congrArg Nat.succ next, rfl, ?_, ?_, ?_, ?_, ?_, ?_, ?_, ?_, ?_, fun none_ => absurd (none_.symm.trans newest) nofun,
        fun entries' arm' newest' => ?_⟩
      · exact (congrArg State.store frame).trans rfl
      · exact (congrArg State.modes frame).trans rfl
      · exact (congrArg State.stages frame).trans rfl
      · exact (congrArg State.diags frame).trans rfl
      · exact (congrArg State.monitor frame).trans rfl
      · exact (congrArg State.link frame).trans rfl
      · exact (congrArg State.free frame).trans rfl
      · exact (congrArg State.inFullReset frame).trans rfl
      · exact (congrArg State.pending frame).trans rfl
      obtain ⟨rfl, rfl⟩ : entries = entries' ∧ arm = arm' := by simpa using newest.symm.trans newest'
      refine ⟨fun ch takes htakes => ?_, ?_, fun unbound p => ?_, ?_⟩
      · exact ⟨(own ch).1.trans (Channel.mapped_eq _ _ _ _ takes htakes), (own ch).2⟩
      · exact (congrArg State.faults frame).trans rfl
      · refine (counts p fun ch _ => unbound ch).trans ?_
        have loaded : (s.recordSlot mapSlot).loader.loaded = s.loader.loaded := rfl
        rw [loaded]
        show ({ s.profile p with bindingCount := _ } : Profile) = _
        cases hl : s.loader.loaded.get p <;> simp [MapEntry.takes, hl]
      · rw [← noneDropped_iff, ← Bool.and_eq_true]
        show (if (arm && noneDropped s.loader.loaded entries) = true then ArmRequest.armAtStart else .stay) = .armAtStart ↔ _
        cases arm && noneDropped s.loader.loaded entries <;> simp
    · rw [e]
      exact ⟨congrArg Nat.succ next, rfl, rfl, rfl, rfl, rfl, rfl, rfl, rfl, rfl, rfl, fun _ => ⟨rfl, rfl, rfl, rfl⟩,
        fun entries arm newest => absurd newest (no_map entries arm)⟩
  · have run : exec .loadLockSlot s = .next s.loadLock.nextSlot :=
      congrArg Host.Outcome.next (if_pos ⟨s.loading_iff.mpr ⟨running, loading⟩, next⟩)
    have locked : ((s.recordSlot lockSlot).store.newestValid lockSlot).isSome =
        decide ((s.store.array.get 33).filterMap (validContent 33) ≠ []) := by
      show (((s.store.array.get 33).filterMap (validContent 33)).getLast?).isSome = _
      rw [Bool.eq_iff_iff, List.getLast?_isSome, decide_eq_true_iff]
    have mode : s.modeAfterLoading =
        if s.modes.nsafeRemembered then .safe
          else if s.loader.request = .stay ∨ s.monitor.uvm = true ∨ s.monitor.ovt = true then .standby else .armed := by
      unfold State.modeAfterLoading
      by_cases stay : s.loader.request = .stay <;> simp [stay]
    have left_ : s.loadLock.nextSlot =
        { s with
          store := { s.store.recordSlot lockSlot with locked := ((s.recordSlot lockSlot).store.newestValid lockSlot).isSome }
          loader := { s.loader with next := s.loader.next + 1 }
          modes := { s.modes with mode := s.modeAfterLoading } } := rfl
    rw [run, left_, locked, mode, next]
    rfl
  · exact (validContent_eq_some_iff slot cell content).trans (and_congr_right fun _ => fitsSlot_iff slot content)

end Sys2Proof.Machine
end


section
/-! The queue, full reset, the frame's beginning and the pins (Chapter 11, R143, R151, R152). -/

namespace Sys2Proof.Machine

/-! ### The queue and full reset -/

/-- Settles O1: a step looks at the queue's front and at nothing else. -/
theorem stepRunsFrontCommand : Obligations.StepRunsFrontCommand := by
  refine ⟨fun c rest s => rfl, fun s idle => ?_⟩
  unfold step
  rw [idle]

/-- Settles O2: each cause of R143 holds the part, and a held part is the full-reset state over its array and its queue. -/
theorem fullResetRestoresEveryBlock : Obligations.FullResetRestoresEveryBlock := by
  intro cause s low
  have run : exec (.fullReset cause) s = .next (if resetHolds cause then s.toFullReset else s) := rfl
  have holds : resetHolds cause = true := by
    cases cause with
    | powerOn => rfl
    | vdd vdd => exact decide_eq_true (low vdd rfl)
    | nReset => rfl
  rw [run, if_pos holds]
  rfl

/-- A command's frame is not taken during full reset. -/
theorem State.frameTaken_of_reset {s : State} (held : s.inFullReset = true) : s.frameTaken = false := by
  rw [State.frameTaken, held]; rfl

/-- A running actuation is not seen during full reset. -/
theorem State.runningNow_of_reset {s : State} (held : s.inFullReset = true) (ch : ChannelId) : s.runningNow ch = none :=
  if_pos held

theorem State.loading_of_reset {s : State} (held : s.inFullReset = true) : s.loading = false := by
  rw [State.loading, held]; rfl

/-- During full reset no happening but the two of the reset itself is taken (R143, R192). -/
theorem exec_of_reset {s : State} (held : s.inFullReset = true) (i : Instr) (start : ∀ c, i ≠ .fullReset c)
    (stop : ∀ v h, i ≠ .fullResetEnd v h) : exec i s = .next s := by
  have untaken := State.frameTaken_of_reset held
  have idle := State.runningNow_of_reset held
  have away := State.loading_of_reset held
  cases i with
  | fullReset c => exact absurd rfl (start c)
  | fullResetEnd v h => exact absurd rfl (stop v h)
  | unknownCommand code f =>
    have still : unknownFrame code f s = s := by rw [unknownFrame, untaken]; rfl
    exact congrArg Host.Outcome.next (by rw [still, ite_self])
  | frameRejected bits =>
    have still : rejectFrame bits s = s := by rw [rejectFrame, untaken]; rfl
    exact congrArg Host.Outcome.next (by rw [still, ite_self])
  | frameBegin => exact congrArg Host.Outcome.next (by rw [beginFrame, held]; rfl)
  | loadProfileSlot =>
    refine congrArg Host.Outcome.next ?_
    split
    · rw [away]; rfl
    · rfl
  | loadMapSlot => exact congrArg Host.Outcome.next (if_neg (by rw [away]; simp))
  | loadLockSlot => exact congrArg Host.Outcome.next (if_neg (by rw [away]; simp))
  | phaseEnd ch => exact congrArg Host.Outcome.next (by rw [idle])
  | holdExpired ch => exact congrArg Host.Outcome.next (by rw [idle])
  | minOnReached ch => exact congrArg Host.Outcome.next (by rw [idle])
  | dipConfirmed ch => exact congrArg Host.Outcome.next (by rw [idle])
  | resistanceSample ch => exact congrArg Host.Outcome.next (by rw [idle])
  | ctlAsserted _ | ctlDeasserted _ | nsafeAsserted | nsafeDeasserted | storeWriteComplete | regulationPeriod _ | stretchExpired =>
    exact congrArg Host.Outcome.next (if_pos held)
  | uvmOnset _ | uvmClears _ | ovtOnset _ | ovtClears _ | progOkTrue _ | progOkFalse _ | openLoadLatchSet _ | overcurrentTrip _ =>
    exact congrArg Host.Outcome.next (if_neg (by rw [held]; simp))
  | _ => exact congrArg Host.Outcome.next (linkCommand_of_not_taken _ _ s _ untaken)

/-- Settles O3: the end asks for both, and every other happening asks that the part be not held. -/
theorem fullResetHoldsUntilItsEnd : Obligations.FullResetHoldsUntilItsEnd := by
  have run : ∀ (vdd : Nat) (high : Bool) (s : State), exec (.fullResetEnd vdd high) s =
      .next (if Config.vddAdequateFrom ≤ vdd ∧ high then { s with inFullReset := false } else s) := fun _ _ _ => rfl
  refine ⟨fun vdd s adequate => ?_, fun vdd high s poor => ?_, fun i s held => exec_of_reset held i⟩
  · rw [run, if_pos ⟨adequate, rfl⟩]
  · rw [run, if_neg]
    rintro ⟨adequate, line⟩
    rcases poor with low | low
    · exact absurd adequate (Nat.not_le.mpr low)
    · rw [low] at line; cases line

/-! ### Unknown commands -/

/-- Settles O7: the port answers such a code itself, in every mode. -/
theorem unknownCommandAnswered : Obligations.UnknownCommandAnswered := by
  intro code f s unknown hr ho
  have run : exec (.unknownCommand code f) s = .next (if (commandOfCode code).isNone then unknownFrame code f s else s) := rfl
  have taken : s.frameTaken = true := by rw [State.frameTaken, hr, ho]; rfl
  rw [run, if_pos (Option.isNone_iff_eq_none.mpr unknown), unknownFrame, if_pos taken]
  simp only [State.prepare, State.closeFrame, LinkPort.ended_eq ho, frameBits_length]
  rfl

/-! ### The reply's bits (R184, R190) -/

/-- The bit at a place of some bytes, most significant first, and none past their end. -/
theorem bytesBits_getD (bs : List Byte) (k : Nat) :
    (bytesBits bs).getD k false = (bs.getD (k / 8) 0).getLsbD (7 - k % 8) := by
  induction bs generalizing k with
  | nil => simp [bytesBits]
  | cons b bs ih =>
    rw [bytesBits_cons]
    by_cases inFirst : k < 8
    · rw [List.getD_append _ _ _ _ (by rw [byteBits_length]; exact inFirst), Nat.div_eq_of_lt inFirst,
        Nat.mod_eq_of_lt inFirst]
      have places : ∀ k < 8, (byteBits b).getD k false = b.getLsbD (7 - k) := by
        intro k hk
        interval_cases k <;> rfl
      exact places k inFirst
    · obtain ⟨j, rfl⟩ := Nat.exists_eq_add_of_le (Nat.not_lt.mp inFirst)
      rw [List.getD_append_right _ _ _ _ (by rw [byteBits_length]; omega), byteBits_length, Nat.add_sub_cancel_left, ih,
        show (8 + j) / 8 = j / 8 + 1 by omega, Nat.add_mod_left, List.getD_cons_succ]

/-- SDO after some clocked bits of a twelve-byte reply: the next bit, and 0 once all 96 are out (R184). -/
theorem bytesBits_getD_min (tx : Vector Byte 12) (n : Nat) :
    (bytesBits tx.toList).getD (min n 96) false =
      (decide (n < 96) && (tx.toList.getD (n / 8) 0).getLsbD (7 - n % 8)) := by
  by_cases more : n < 96
  · rw [Nat.min_eq_left (Nat.le_of_lt more), bytesBits_getD, decide_eq_true more, Bool.true_and]
  · rw [Nat.min_eq_right (Nat.not_lt.mp more), decide_eq_false more, Bool.false_and]
    have long : tx.toList.length = 12 := by simp
    rw [bytesBits_getD, List.getD_eq_default _ _ long.le]
    decide

/-- What some clocked bits leave of a port whose frame has just begun (R184). -/
theorem LinkPort.clocked_begun {l : LinkPort} (opened : l.frameOpen = true) (fresh : l.received = []) (start : l.shifted = 0)
    (bits : List Bool) :
    l.clocked bits = { l with received := bits, shifted := min bits.length Config.frameBits } := by
  rw [LinkPort.clocked_eq opened (by rw [start]; exact Nat.zero_le _), fresh, start, List.nil_append, Nat.zero_add]

/-- Byte 1 of a reply: its flags above its result code (12.2). -/
theorem byteOf_flags (flags : BitVec 3) (r : ResultCode) :
    byteOf (flags.toNat * 32 + resultValue r) = flags ++ BitVec.ofNat 5 (resultValue r) := by
  have coded : ∀ flags : BitVec 3, ∀ n < 32, byteOf (flags.toNat * 32 + n) = flags ++ BitVec.ofNat 5 n := by decide +kernel
  exact coded flags _ (by cases r <;> decide)

/-- Byte 3 of a reply: a nibble above the tag (12.2). -/
theorem byteOf_nibble (nibble : BitVec 4) (tag : Option (BitVec 4)) :
    byteOf (nibble.toNat * 16 + tagField tag) = nibble ++ tag.getD 0 := by
  have coded : ∀ nibble tag : BitVec 4, byteOf (nibble.toNat * 16 + tag.toNat) = nibble ++ tag := by decide +kernel
  cases tag with
  | none => exact coded nibble 0
  | some tag => exact coded nibble tag

/-- Settles O4: the frame's beginning loads the reply, and from there the port after n bits is known from n alone. -/
theorem frameBeginLoadsReply : Obligations.FrameBeginLoadsReply := by
  refine ⟨fun s hr => ⟨fun opened => ?_, fun closed => ?_⟩, fun l bit closed => ?_, fun s => rfl, by decide, fun bs b => ?_,
    by decide⟩
  · exact congrArg Host.Outcome.next (if_pos (by rw [hr, opened]; rfl))
  · refine ⟨transmitFrame s.statusByte s.link.prepared, congrArg Host.Outcome.next (if_neg (by rw [hr, closed]; decide)), rfl,
      byteOf_flags _ _, rfl, byteOf_nibble _ _, rfl, rfl, rfl, rfl, rfl, rfl, rfl, rfl, fun bits l after => ?_⟩
    have known := LinkPort.clocked_begun
      (l := { s.link with
        received := [], frameOpen := true, shifted := 0, transmit := transmitFrame s.statusByte s.link.prepared }) rfl rfl rfl bits
    rw [LinkPort.clocked, ← after] at known
    subst known
    refine ⟨rfl, rfl, rfl, rfl, ?_, ?_⟩
    · exact congrArg some (bytesBits_getD_min _ _)
    · exact LinkPort.ended_eq rfl bits
  · obtain ⟨rises, falls⟩ := LinkPort.sck_of_not_open closed bit
    exact ⟨rises, falls, by rw [LinkPort.sdo, closed]; rfl⟩
  · rw [crc8, List.foldl_append]
    rfl

/-! ### The status byte and nFAULT (R151, R152, R191) -/

theorem any_allChannels_iff (p : ChannelId → Bool) : allChannels.any p = true ↔ ∃ ch, p ch = true := by
  simp [List.any_eq_true, mem_allChannels]

theorem any_allProfiles_iff (p : ProfileId → Bool) : allProfiles.any p = true ↔ ∃ id, p id = true := by
  simp [List.any_eq_true, mem_allProfiles]

/-- The status byte's fields are read back from it: the mode in its upper three bits and five flags below (12.3). -/
theorem statusBits_read (m : PartMode) (a b c d e : Bool) :
    (BitVec.ofNat 8 (modeCode m * 32 + bit a * 16 + bit b * 8 + bit c * 4 + bit d * 2 + bit e)).toNat / 32 = modeCode m ∧
      [4, 3, 2, 1, 0].map
        (BitVec.ofNat 8 (modeCode m * 32 + bit a * 16 + bit b * 8 + bit c * 4 + bit d * 2 + bit e)).getLsbD = [a, b, c, d, e] := by
  revert a b c d e
  cases m <;> decide

/-- Settles O5: the byte's fields are its five sources, each a question over all channels or all profiles. -/
theorem statusByteShowsItsSources : Obligations.StatusByteShowsItsSources := by
  intro s
  obtain ⟨mode, flags⟩ := statusBits_read s.modes.mode s.faultBit s.faults.comm s.withheldAny s.outcomePending s.storeBusy
  simp only [List.map_cons, List.map_nil, List.cons.injEq] at flags
  obtain ⟨fault, comm, withheld, pending, busy, -⟩ := flags
  have overcurrentAny := any_allChannels_iff fun ch => (s.chFault ch).overcurrent
  have openLoadAny := any_allChannels_iff fun ch => (s.chFault ch).openLoad
  have withheldAny := any_allProfiles_iff fun p => (s.profile p).withheld
  refine ⟨mode, rfl, ?_, iff_of_eq (congrArg (· = true) comm), ?_, ?_, iff_of_eq (congrArg (· = true) busy), fun running => ?_,
    fun held => ?_⟩
  · rw [State.statusByte, fault, State.faultBit]
    simp only [Bool.or_eq_true, State.overcurrentAny, State.openLoadAny, State.withheldAny, overcurrentAny, openLoadAny,
      withheldAny, exists_or, or_assoc]
  · rw [State.statusByte, withheld]
    exact withheldAny
  · rw [State.statusByte, pending]
    exact any_allChannels_iff _
  · simp only [State.nFaultAsserted, running, Bool.not_false, Bool.true_and, Bool.or_eq_true, Bool.and_eq_true, Bool.not_eq_true',
      State.overcurrentAny, State.openLoadAny, State.withheldAny, overcurrentAny, openLoadAny, withheldAny, exists_and_right,
      or_assoc]
  · rw [State.nFaultAsserted, held]; rfl

end Sys2Proof.Machine
end


section
/-! The table's commands: drafts, versions and their reads (Chapters 1 to 3, 12.5). -/

namespace Sys2Proof.Machine

/-! ### What the owners answer, branch by branch -/

theorem withProfile_of_id {b : Byte} {p : ProfileId} (hb : b.toNat = p.val + 1) (s : State) (k : ProfileId → State × Answer) :
    withProfile b s k = k p := by
  rw [withProfile, profileId?_eq_some_iff.mpr hb]

theorem withDraft_of_none {b : Byte} {p : ProfileId} (hb : b.toNat = p.val + 1) {s : State} (none_ : (s.profile p).draft = none)
    (k : ProfileId → Shape → State × Answer) : withDraft b s k = refuse s .noDraft := by
  rw [withDraft, withProfile_of_id hb]
  simp only [none_]

theorem withDraft_of_some {b : Byte} {p : ProfileId} (hb : b.toNat = p.val + 1) {s : State} {d : Shape}
    (held : (s.profile p).draft = some d) (k : ProfileId → Shape → State × Answer) : withDraft b s k = k p d := by
  rw [withDraft, withProfile_of_id hb]
  simp only [held]

section
variable {f : Frame} {p : ProfileId} (id : f.b2.toNat = p.val + 1) {s : State}
include id

theorem openDraft_of_draft (held : (s.profile p).draft.isSome = true) : openDraft f s = refuse s .draftExists := by
  simp [openDraft, withProfile_of_id id, held]

theorem openDraft_of_absent (free : (s.profile p).draft = none) (absent : (s.profile p).live = none) :
    openDraft f s = okEntries (s.openEmpty p) 0 := by
  simp [openDraft, withProfile_of_id id, free, absent]

theorem openDraft_of_live {v : Version} (free : (s.profile p).draft = none) (live : (s.profile p).live = some v) :
    openDraft f s = if s.free < v.shape.size then refuse s .poolFull else okEntries (s.openCopy p v) v.shape.size := by
  simp [openDraft, withProfile_of_id id, free, live]

theorem discardDraft_of_none (none_ : (s.profile p).draft = none) : discardDraft f s = refuse s .noDraft := by
  simp [discardDraft, withProfile_of_id id, none_]

theorem discardDraft_of_some {d : Shape} (held : (s.profile p).draft = some d) :
    discardDraft f s = okEntries (s.discard p) d.size := by
  simp [discardDraft, withProfile_of_id id, held]

theorem commit_of_none (none_ : (s.profile p).draft = none) : commit f s = refuse s .noDraft := by
  simp [commit, withProfile_of_id id, none_]

theorem commit_of_draining {d : Shape} (held : (s.profile p).draft = some d) (drains : (s.profile p).draining.isSome = true) :
    commit f s = refuse s .drainPending := by
  simp [commit, withProfile_of_id id, held, drains]

theorem commit_of_last {d : Shape} (held : (s.profile p).draft = some d) (still : (s.profile p).draining = none)
    (last : (s.profile p).highWater = 65535) : commit f s = refuse s .genLimit := by
  simp [commit, withProfile_of_id id, held, still, last, Config.maxGeneration]

theorem commit_of_fail {d : Shape} {n : Nat} {pos : Option Position} (held : (s.profile p).draft = some d)
    (still : (s.profile p).draining = none) (more : (s.profile p).highWater < 65535) (failed : runChecks d = .fail n pos) :
    commit f s = (s, { result := .checkFailed, data := checkFailure n pos }) := by
  simp [commit, withProfile_of_id id, held, still, more.not_ge, Config.maxGeneration, failed]

theorem commit_of_pass {d : Shape} (held : (s.profile p).draft = some d) (still : (s.profile p).draining = none)
    (more : (s.profile p).highWater < 65535) (passed : runChecks d = .pass) :
    commit f s = okWith (s.makeLive p d)
      { b4 := hiByte ((s.profile p).highWater + 1), b5 := loByte ((s.profile p).highWater + 1) } := by
  simp [commit, withProfile_of_id id, held, still, more.not_ge, Config.maxGeneration, passed]

theorem retire_of_absent (live : (s.profile p).live = none) (draft : (s.profile p).draft = none) :
    retire f s = refuse s .noProfile := by
  simp [retire, withProfile_of_id id, Profile.state, live, draft]

theorem retire_of_held (held : (s.profile p).live.isSome = true ∨ (s.profile p).draft.isSome = true) :
    retire f s = if (s.profile p).bindingCount ≠ 0 then refuse s .inUse
      else okEntries (s.retireProfile p) (s.profile p).retiredEntries := by
  have present : (s.profile p).state ≠ .absent := by
    rcases held with live | draft
    · simp [Profile.state, live]
    · cases live : (s.profile p).live <;> simp [Profile.state, live, draft]
  rw [retire, withProfile_of_id id, if_neg present]

theorem clearWithheld_of_none (live : (s.profile p).live = none) : clearWithheld f s = refuse s .noProfile := by
  simp [clearWithheld, withProfile_of_id id, live]

theorem clearWithheld_of_live (live : (s.profile p).live.isSome = true) :
    clearWithheld f s = okWith (s.setProfile p (s.profile p).cleared)
      { b4 := byteOf (s.profile p).failureRun, b5 := byteOf (bit (s.profile p).withheld) } := by
  obtain ⟨v, live⟩ := Option.isSome_iff_exists.mp live
  simp [clearWithheld, withProfile_of_id id, live]

end

/-! ### Drafts opened and discarded, versions made live and retired -/

/-- Settles O13: the three answers of R9, R10 and R44, each with the state it leaves. -/
theorem openDraftOpensOrRefuses : Obligations.OpenDraftOpensOrRefuses := by
  intro f s p admits id
  refine ⟨fun held => ?_, fun free absent => ?_, fun v free live room => ?_, fun v free live full => ?_⟩
  · exact congrArg Host.Outcome.next (linkCommand_owner admits rfl fun l => openDraft_of_draft (s := s.withLink l) id held)
  · exact congrArg Host.Outcome.next (linkCommand_owner admits rfl fun l => openDraft_of_absent (s := s.withLink l) id free absent)
  · exact congrArg Host.Outcome.next (linkCommand_owner admits rfl fun l =>
      (openDraft_of_live (s := s.withLink l) id free live).trans (if_neg room.not_gt))
  · exact congrArg Host.Outcome.next (linkCommand_owner admits rfl fun l =>
      (openDraft_of_live (s := s.withLink l) id free live).trans (if_pos full))

/-- A profile whose draft is removed, where it becomes ABSENT by that and where it does not (R11, R12). -/
theorem Profile.clearIfAbsent_withoutDraft (e : Profile) :
    ({ e with draft := none } : Profile).clearIfAbsent =
      { e with
        draft := none
        failureRun := if e.live = none then 0 else e.failureRun
        withheld := if e.live = none then false else e.withheld } := by
  cases live : e.live <;> simp [Profile.clearIfAbsent, Profile.state, Profile.cleared]

/-- Settles O14: each owner's refusal, and the state that its act leaves. -/
theorem discardRetireAndClearWithheld : Obligations.DiscardRetireAndClearWithheld := by
  intro f s p id
  refine ⟨fun admits => ⟨fun none_ => ?_, fun d held => ?_⟩, fun admits => ⟨fun live draft => ?_, fun held => ⟨fun used => ?_,
    fun unused => ?_⟩⟩, fun admits => ⟨fun absent => ?_, fun live => ?_⟩⟩
  · exact congrArg Host.Outcome.next (linkCommand_owner admits rfl fun l => discardDraft_of_none (s := s.withLink l) id none_)
  · rw [← Profile.clearIfAbsent_withoutDraft]
    have entries : draftSize (s.profile p).draft = d.size := by rw [held]; rfl
    rw [← entries]
    refine congrArg Host.Outcome.next (linkCommand_owner admits rfl fun l => ?_)
    refine (discardDraft_of_some (s := s.withLink l) id held).trans ?_
    rw [← entries]
    rfl
  · exact congrArg Host.Outcome.next (linkCommand_owner admits rfl fun l => retire_of_absent (s := s.withLink l) id live draft)
  · exact congrArg Host.Outcome.next (linkCommand_owner admits rfl fun l =>
      (retire_of_held (s := s.withLink l) id held).trans (if_pos used))
  · exact congrArg Host.Outcome.next (linkCommand_owner admits rfl fun l =>
      (retire_of_held (s := s.withLink l) id held).trans (if_neg (not_not.mpr unused)))
  · exact congrArg Host.Outcome.next (linkCommand_owner admits rfl fun l => clearWithheld_of_none (s := s.withLink l) id absent)
  · refine congrArg Host.Outcome.next (linkCommand_owner admits rfl fun l => ?_)
    have flag : byteOf (bit (s.profile p).withheld) = if (s.profile p).withheld then 1 else 0 := by
      cases (s.profile p).withheld <;> rfl
    rw [← flag]
    exact clearWithheld_of_live (s := s.withLink l) id live

/-- What a commit leaves of the version it displaces: it drains while engaged, and is gone with its entries otherwise (R15). -/
theorem displaced_eq (old : Option Version) :
    displaced old = old.filter (fun v => v.engaged ≠ 0) ∧
      freedByCommit old = versionSize (old.filter fun v => v.engaged = 0) := by
  cases old with
  | none => exact ⟨rfl, rfl⟩
  | some v => by_cases idle : v.engaged = 0 <;> simp [displaced, freedByCommit, Option.filter, idle, versionSize]

/-- Settles O15: the refusals in the owner's order, and the draft made live over the version it displaces. -/
theorem commitMakesDraftLiveOrRefuses : Obligations.CommitMakesDraftLiveOrRefuses := by
  intro f s p admits id
  refine ⟨fun none_ => ?_, fun d held => ⟨fun drains => ?_, fun still => ⟨fun last => ?_, fun more => ⟨fun n pos failed => ?_,
    fun passed => ?_⟩⟩⟩⟩
  · exact congrArg Host.Outcome.next (linkCommand_owner admits rfl fun l => commit_of_none (s := s.withLink l) id none_)
  · exact congrArg Host.Outcome.next (linkCommand_owner admits rfl fun l => commit_of_draining (s := s.withLink l) id held drains)
  · exact congrArg Host.Outcome.next (linkCommand_owner admits rfl fun l => commit_of_last (s := s.withLink l) id held still last)
  · exact congrArg Host.Outcome.next (linkCommand_owner admits rfl fun l =>
      commit_of_fail (s := s.withLink l) id held still more failed)
  · obtain ⟨drains, freed⟩ := displaced_eq (s.profile p).live
    rw [← drains, ← freed]
    exact congrArg Host.Outcome.next (linkCommand_owner admits rfl fun l =>
      commit_of_pass (s := s.withLink l) id held still more passed)

/-! ### Sets in replies (12.4) -/

/-- A set written as a number has bit k for its member k. -/
theorem testBit_sum_bits (n : Nat) (f : Fin n → Bool) (k : Fin n) :
    ((List.finRange n).map fun i => bit (f i) * 2 ^ i.val).sum.testBit k.val = f k := by
  induction n with
  | zero => exact k.elim0
  | succ n ih =>
    have shifted : (((List.finRange n).map Fin.succ).map fun i : Fin (n + 1) => bit (f i) * 2 ^ i.val).sum =
        2 * ((List.finRange n).map fun i => bit (f i.succ) * 2 ^ i.val).sum := by
      rw [List.map_map, ← List.sum_map_mul_left]
      refine congrArg List.sum (List.map_congr_left fun i _ => ?_)
      simp only [Function.comp_apply, Fin.val_succ, pow_succ]
      ring
    have low : bit (f 0) ≤ 1 := by cases f 0 <;> decide
    rw [List.finRange_succ, List.map_cons, List.sum_cons, shifted, Fin.val_zero, pow_zero, Nat.mul_one]
    refine k.cases ?_ fun j => ?_
    · rw [Fin.val_zero, Nat.testBit_zero, Nat.add_mul_mod_self_left]
      cases f 0 <;> decide
    · rw [Fin.val_succ, Nat.testBit_succ, Nat.add_mul_div_left _ _ (by decide), Nat.div_eq_of_lt (by omega), Nat.zero_add]
      exact ih (fun i => f i.succ) j

theorem testBit_profileSet (set : ProfileId → Bool) (p : ProfileId) : (profileSet set).testBit p.val = set p := by
  have all : allProfiles = List.finRange 32 := by decide
  rw [profileSet, all]
  exact testBit_sum_bits 32 set p

/-- Four bytes, most significant first, spell a number of 32 bits. -/
theorem fourBytes_getLsbD (n k : Nat) (hk : k < 32) :
    (byteOf (n / 16777216) ++ byteOf (n / 65536) ++ byteOf (n / 256) ++ byteOf n).getLsbD k = n.testBit k := by
  have place : ∀ j i m, m = 2 ^ j → (byteOf (n / m)).getLsbD i = (decide (i < 8) && n.testBit (j + i)) := fun j i m hm => by
    rw [byteOf, hm, BitVec.getLsbD_ofNat, Nat.testBit_div_two_pow, Nat.add_comm]
  have byte0 : (byteOf n).getLsbD k = (decide (k < 8) && n.testBit k) := BitVec.getLsbD_ofNat ..
  rw [BitVec.getLsbD_append, BitVec.getLsbD_append, BitVec.getLsbD_append, byte0, place 8 _ 256 rfl, place 16 _ 65536 rfl,
    place 24 _ 16777216 rfl]
  split
  · next h => rw [decide_eq_true h, Bool.true_and]
  · split
    · next h => rw [decide_eq_true h, Bool.true_and, show 8 + (k - 8) = k by omega]
    · split
      · next h => rw [decide_eq_true h, Bool.true_and, show 16 + (k - 8 - 8) = k by omega]
      · rw [decide_eq_true (show k - 8 - 8 - 8 < 8 by omega), Bool.true_and, show 24 + (k - 8 - 8 - 8) = k by omega]

/-- The bits of the four bytes of a set of profiles (12.4). -/
theorem profileSetData_getLsbD (set : ProfileId → Bool) (p : ProfileId) :
    ((profileSetData set).b4 ++ (profileSetData set).b5 ++ (profileSetData set).b6 ++ (profileSetData set).b7).getLsbD p.val =
      set p := by
  rw [← testBit_profileSet set p, ← fourBytes_getLsbD (profileSet set) p.val p.isLt, profileSetData]

end Sys2Proof.Machine
end


section
/-! The table's reads, and the commands that edit a draft and read it (R19, R20, R33 to R42, R59). -/

namespace Sys2Proof.Machine

/-! ### READ_TABLE_MAP and READ_PROFILE -/

/-- Whether a profile is in the set that a selector of READ_TABLE_MAP names (R19). -/
def Profile.inSet (selector : Nat) (e : Profile) : Bool :=
  if selector = 1 then e.live.isSome else if selector = 2 then e.draft.isSome
  else if selector = 3 then e.draining.isSome else e.withheld

theorem readTableMap_of_selector {f : Frame} (low : 1 ≤ f.b2.toNat) (high : f.b2.toNat ≤ 4) (s : State) :
    readTableMap f s = okWith s (profileSetData fun p => (s.profile p).inSet f.b2.toNat) := by
  have selectors : ∀ b : Byte, 1 ≤ b.toNat → b.toNat ≤ 4 → b = 1 ∨ b = 2 ∨ b = 3 ∨ b = 4 := by decide +kernel
  rcases selectors f.b2 low high with h | h | h | h <;> simp [readTableMap, Profile.inSet, h]

theorem readTableMap_of_none {f : Frame} (out : f.b2.toNat = 0 ∨ 4 < f.b2.toNat) (s : State) :
    readTableMap f s = refuse s .badParam := by
  have others : ∀ b : Byte, b.toNat = 0 ∨ 4 < b.toNat → b ≠ 1 ∧ b ≠ 2 ∧ b ≠ 3 ∧ b ≠ 4 := by decide +kernel
  obtain ⟨h1, h2, h3, h4⟩ := others f.b2 out
  rw [readTableMap, if_neg h1, if_neg h2, if_neg h3, if_neg h4]

theorem versionSelector?_eq (b : Byte) :
    versionSelector? b =
      if b.toNat = 1 then some .live else if b.toNat = 2 then some .draft else if b.toNat = 3 then some .draining else none := by
  revert b; decide +kernel

section
variable {f : Frame} {p : ProfileId} (id : f.b2.toNat = p.val + 1) {s : State}
include id

theorem readProfile_of_badParam (out : f.b3.toNat = 0 ∨ 3 < f.b3.toNat ∨ f.b4.toNat = 0 ∨ 5 < f.b4.toNat) :
    readProfile f s = refuse s .badParam := by
  cases selected : versionSelector? f.b3 with
  | none => simp [readProfile, withProfile_of_id id, selected]
  | some sel =>
    rw [versionSelector?_eq] at selected
    have version : 1 ≤ f.b3.toNat ∧ f.b3.toNat ≤ 3 := by grind
    have group : f.b4.toNat < 2 ∨ 5 < f.b4.toNat := by omega
    have other : f.b4 ≠ 1 := fun h => by rw [h] at out; simp at out; omega
    rw [← versionSelector?_eq] at selected
    rw [readProfile, withProfile_of_id id]
    simp only [selected, if_neg other, if_pos group]

theorem readProfile_entry {sel : VersionSelector} (selected : versionSelector? f.b3 = some sel) (entry : f.b4 = 1) :
    readProfile f s = okWith s (profileEntryData (s.profile p)) := by
  simp [readProfile, withProfile_of_id id, selected, entry]

theorem readProfile_of_none {sel : VersionSelector} (selected : versionSelector? f.b3 = some sel) (low : 2 ≤ f.b4.toNat)
    (high : f.b4.toNat ≤ 5) (none_ : (s.profile p).select sel = none) : readProfile f s = refuse s .noVersion := by
  have other : f.b4 ≠ 1 := fun h => by rw [h] at low; exact absurd low (by decide)
  have group : ¬(f.b4.toNat < 2 ∨ 5 < f.b4.toNat) := by omega
  rw [readProfile, withProfile_of_id id]
  simp only [selected, if_neg other, if_neg group, none_]

theorem readProfile_group {sel : VersionSelector} {v : Nat × Nat × Shape} {d : ReplyData}
    (selected : versionSelector? f.b3 = some sel) (low : 2 ≤ f.b4.toNat) (high : f.b4.toNat ≤ 5)
    (held : (s.profile p).select sel = some v) (group : versionGroup f.b4 v = some d) : readProfile f s = okWith s d := by
  have other : f.b4 ≠ 1 := fun h => by rw [h] at low; exact absurd low (by decide)
  have known : ¬(f.b4.toNat < 2 ∨ 5 < f.b4.toNat) := by omega
  rw [readProfile, withProfile_of_id id]
  simp only [selected, if_neg other, if_neg known, held, group, Option.getD_some]

theorem readPhase_of_badSelector (out : versionSelector? f.b3 = none) : readPhase f s = refuse s .badParam := by
  simp [readPhase, withProfile_of_id id, out]

theorem readPhase_of_none {sel : VersionSelector} (selected : versionSelector? f.b3 = some sel)
    (none_ : (s.profile p).select sel = none) : readPhase f s = refuse s .noVersion := by
  simp [readPhase, withProfile_of_id id, selected, none_]

theorem readPhase_of_badPosition {sel : VersionSelector} {v : Nat × Nat × Shape} (selected : versionSelector? f.b3 = some sel)
    (held : (s.profile p).select sel = some v) (out : (v.2.2.seqOf (positionSeq f.b4)).length ≤ positionIndex f.b4) :
    readPhase f s = refuse s .badParam := by
  simp [readPhase, withProfile_of_id id, selected, held, out]

theorem readPhase_entry {sel : VersionSelector} {v : Nat × Nat × Shape} {e : PhaseEntry}
    (selected : versionSelector? f.b3 = some sel) (held : (s.profile p).select sel = some v)
    (at_ : (v.2.2.seqOf (positionSeq f.b4))[positionIndex f.b4]? = some e) :
    readPhase f s = okWith s (entryData e (v.2.2.seqOf (positionSeq f.b4)).length) := by
  simp [readPhase, withProfile_of_id id, selected, held, at_]

end

/-- The ENTRY group, bit by bit (12.5). -/
theorem profileEntryData_eq (e : Profile) :
    profileEntryData e =
      { b4 := BitVec.ofBool e.live.isSome ++ BitVec.ofBool e.draft.isSome ++ BitVec.ofBool e.draining.isSome ++
          BitVec.ofBool e.withheld ++ 0#2 ++
          (if e.live.isSome then 2#2 else if e.draft.isSome then 1#2 else 0#2)
        b5 := BitVec.ofNat 8 (e.highWater / 256), b6 := BitVec.ofNat 8 e.highWater
        b7 := BitVec.ofNat 8 e.bindingCount, b8 := BitVec.ofNat 8 e.failureRun } := by
  have coded : ∀ live draft draining withheld : Bool,
      byteOf (bit live * 128 + bit draft * 64 + bit draining * 32 + bit withheld * 16 +
        profileStateCode (if live then .live else if draft then .new else .absent)) =
      BitVec.ofBool live ++ BitVec.ofBool draft ++ BitVec.ofBool draining ++ BitVec.ofBool withheld ++ 0#2 ++
        (if live then 2#2 else if draft then 1#2 else 0#2) := by decide
  have b4 := coded e.live.isSome e.draft.isSome e.draining.isSome e.withheld
  unfold profileEntryData Profile.state
  rw [b4]
  rfl

/-- Settles O16: the set that each selector names, and the group of the version named, read off the table. -/
theorem tableReadsAnswerWhatIsHeld : Obligations.TableReadsAnswerWhatIsHeld := by
  refine ⟨fun f s admits => ⟨fun low high => ?_, fun out => ?_⟩, fun f s p admits id => ⟨fun out => ?_, fun sel selected =>
    ⟨fun entry => ?_, fun low high none_ => ?_, fun gen engaged sh held => ?_⟩⟩, versionSelector?_eq, fun e =>
    ⟨rfl, rfl, rfl, profileEntryData_eq e, fun _ _ _ => rfl⟩⟩
  · have bits := profileSetData_getLsbD fun p => (s.profile p).inSet f.b2.toNat
    exact ⟨_, _, _, _, congrArg Host.Outcome.next (linkCommand_owner
      (d := profileSetData fun p => (s.profile p).inSet f.b2.toNat) admits rfl fun l =>
      readTableMap_of_selector low high (s.withLink l)), bits⟩
  · exact congrArg Host.Outcome.next (linkCommand_owner admits rfl fun l => readTableMap_of_none out (s.withLink l))
  · exact congrArg Host.Outcome.next (linkCommand_owner admits rfl fun l => readProfile_of_badParam (s := s.withLink l) id out)
  · exact congrArg Host.Outcome.next (linkCommand_owner admits rfl fun l => readProfile_entry (s := s.withLink l) id selected entry)
  · exact congrArg Host.Outcome.next (linkCommand_owner admits rfl fun l =>
      readProfile_of_none (s := s.withLink l) id selected low high none_)
  · have answered {n : Byte} {d : ReplyData} (low : 2 ≤ n.toNat) (high : n.toNat ≤ 5)
        (group : versionGroup n (gen, engaged, sh) = some d) (named : f.b4 = n) :
        exec (.readProfile f) s = .next (s.replied .readProfile f .ok d) :=
      congrArg Host.Outcome.next (linkCommand_owner admits rfl fun l =>
        readProfile_group (s := s.withLink l) id selected (named ▸ low) (named ▸ high) held (named ▸ group))
    exact ⟨answered (by decide) (by decide) rfl, answered (by decide) (by decide) rfl, answered (by decide) (by decide) rfl,
      answered (by decide) (by decide) rfl⟩

/-! ### Edits of a draft -/

/-- The entry rewritten at a position of a sequence (R34). -/
theorem Shape.setEntry_eq (d : Shape) (q : Seq) (i : Nat) (e : PhaseEntry) :
    d.setEntry q i e =
      (match q with
      | .energize => { d with energize := d.energize.set i e }
      | .release => { d with release := d.release.set i e }) := by
  cases q <;> rfl

theorem insertIdx_eq_take_drop {α : Type} (l : List α) (i : Nat) (a : α) (h : i ≤ l.length) :
    l.insertIdx i a = l.take i ++ a :: l.drop i := by
  induction l generalizing i with
  | nil => obtain rfl := Nat.le_zero.mp h; rfl
  | cons b l ih =>
    cases i with
    | zero => rfl
    | succ i => rw [List.insertIdx_succ_cons, ih i (Nat.le_of_succ_le_succ h)]; rfl

section
variable {f : Frame} {p : ProfileId} (id : f.b2.toNat = p.val + 1) {s : State} {d : Shape} (held : (s.profile p).draft = some d)
include id held

theorem setPhase_of_badParam (out : entryOf f = none ∨ (d.seqOf (positionSeq f.b3)).length ≤ positionIndex f.b3) :
    setPhase f s = refuse s .badParam := by
  rw [setPhase, withDraft_of_some id held]
  cases entry : entryOf f with
  | none => rfl
  | some e => exact if_pos (out.resolve_left (by rw [entry]; simp))

theorem setPhase_entry {e : PhaseEntry} (entry : entryOf f = some e)
    (at_ : positionIndex f.b3 < (d.seqOf (positionSeq f.b3)).length) :
    setPhase f s = okEntries (s.setDraft p (d.setEntry (positionSeq f.b3) (positionIndex f.b3) e))
      (d.seqOf (positionSeq f.b3)).length := by
  rw [setPhase, withDraft_of_some id held]
  simp only [entry, if_neg at_.not_ge, okCount, Shape.setEntry, Shape.seqOf_withSeq_same, List.length_set]

theorem insertPhase_of_badParam (out : entryOf f = none ∨ (d.seqOf (positionSeq f.b3)).length < positionIndex f.b3) :
    insertPhase f s = refuse s .badParam := by
  rw [insertPhase, withDraft_of_some id held]
  cases entry : entryOf f with
  | none => rfl
  | some e => exact if_pos (out.resolve_left (by rw [entry]; simp))

theorem insertPhase_of_entry {e : PhaseEntry} (entry : entryOf f = some e)
    (at_ : positionIndex f.b3 ≤ (d.seqOf (positionSeq f.b3)).length) :
    insertPhase f s =
      if maxCount (positionSeq f.b3) ≤ (d.seqOf (positionSeq f.b3)).length then refuse s .seqFull
      else if s.free = 0 then refuse s .poolFull
      else okEntries ((s.setDraft p (d.insertEntry (positionSeq f.b3) (positionIndex f.b3) e)).allocate 1)
        ((d.seqOf (positionSeq f.b3)).length + 1) := by
  rw [insertPhase, withDraft_of_some id held]
  simp only [entry, if_neg at_.not_gt, okCount, Shape.insertEntry, Shape.seqOf_withSeq_same,
    List.length_insertIdx_of_le_length at_]

theorem deletePhase_of_badParam (out : (d.seqOf (positionSeq f.b3)).length ≤ positionIndex f.b3) :
    deletePhase f s = refuse s .badParam := by
  rw [deletePhase, withDraft_of_some id held]
  exact if_pos out

theorem deletePhase_entry (at_ : positionIndex f.b3 < (d.seqOf (positionSeq f.b3)).length) :
    deletePhase f s = okEntries ((s.setDraft p (d.deleteEntry (positionSeq f.b3) (positionIndex f.b3))).freeEntries 1)
      ((d.seqOf (positionSeq f.b3)).length - 1) := by
  rw [deletePhase, withDraft_of_some id held]
  simp only [if_neg at_.not_ge, okCount, Shape.deleteEntry, Shape.seqOf_withSeq_same, List.length_eraseIdx_of_lt at_]

theorem setFields_of_badParam (out : fieldsOf f d.fields = none) : setFields f s = refuse s .badParam := by
  rw [setFields, withDraft_of_some id held]
  simp only [out]

theorem setFields_fields {v : Fields} (read : fieldsOf f d.fields = some v) :
    setFields f s = okWith (s.setDraft p { d with fields := v }) {} := by
  rw [setFields, withDraft_of_some id held]
  simp only [read]

theorem checkDraft_of_pass (passed : runChecks d = .pass) : checkDraft f s = okWith s {} := by
  rw [checkDraft, withDraft_of_some id held]
  simp only [passed]

theorem checkDraft_of_fail {n : Nat} {pos : Option Position} (failed : runChecks d = .fail n pos) :
    checkDraft f s = (s, { result := .checkFailed, data := checkFailure n pos }) := by
  rw [checkDraft, withDraft_of_some id held]
  simp only [failed]

end

/-- Settles O17: the two edits that leave the pool, each with its refusals. -/
theorem setPhaseAndSetFieldsRewriteDraft : Obligations.SetPhaseAndSetFieldsRewriteDraft := by
  intro f s p id
  refine ⟨fun admits => ⟨fun none_ => ?_, fun d held => ⟨fun out => ?_, fun e entry at_ => ?_⟩⟩, fun admits => ⟨fun none_ => ?_,
    fun d held => ⟨fun out => ?_, fun v read => ?_⟩⟩⟩
  · exact congrArg Host.Outcome.next (linkCommand_owner admits rfl fun l => withDraft_of_none (s := s.withLink l) id none_ _)
  · exact congrArg Host.Outcome.next (linkCommand_owner admits rfl fun l => setPhase_of_badParam (s := s.withLink l) id held out)
  · have owner (l : LinkPort) := setPhase_entry (s := s.withLink l) id held entry at_
    simp only [Shape.setEntry_eq] at owner
    exact congrArg Host.Outcome.next (linkCommand_owner admits rfl owner)
  · exact congrArg Host.Outcome.next (linkCommand_owner admits rfl fun l => withDraft_of_none (s := s.withLink l) id none_ _)
  · exact congrArg Host.Outcome.next (linkCommand_owner admits rfl fun l => setFields_of_badParam (s := s.withLink l) id held out)
  · exact congrArg Host.Outcome.next (linkCommand_owner admits rfl fun l => setFields_fields (s := s.withLink l) id held read)

/-- Settles O18: the refusals in the owner's order, and the sequence around the entry that comes or goes. -/
theorem insertAndDeletePhaseMoveOneEntry : Obligations.InsertAndDeletePhaseMoveOneEntry := by
  refine ⟨⟨rfl, rfl⟩, fun f s p id => ⟨fun admits => ⟨fun none_ => ?_, fun d held => ⟨fun out => ?_, fun e entry at_ =>
    ⟨fun full => ?_, fun room empty => ?_, fun room free => ⟨d.insertEntry (positionSeq f.b3) (positionIndex f.b3) e, ?_, ?_, ?_,
      ?_⟩⟩⟩⟩, fun admits => ⟨fun none_ => ?_, fun d held => ⟨fun out => ?_, fun at_ =>
    ⟨d.deleteEntry (positionSeq f.b3) (positionIndex f.b3), ?_, ?_, ?_, ?_⟩⟩⟩⟩⟩
  · exact congrArg Host.Outcome.next (linkCommand_owner admits rfl fun l => withDraft_of_none (s := s.withLink l) id none_ _)
  · exact congrArg Host.Outcome.next (linkCommand_owner admits rfl fun l => insertPhase_of_badParam (s := s.withLink l) id held out)
  · exact congrArg Host.Outcome.next (linkCommand_owner admits rfl fun l =>
      (insertPhase_of_entry (s := s.withLink l) id held entry at_).trans (if_pos full))
  · exact congrArg Host.Outcome.next (linkCommand_owner admits rfl fun l =>
      (insertPhase_of_entry (s := s.withLink l) id held entry at_).trans ((if_neg room.not_ge).trans (if_pos empty)))
  · exact congrArg Host.Outcome.next (linkCommand_owner admits rfl fun l =>
      (insertPhase_of_entry (s := s.withLink l) id held entry at_).trans ((if_neg room.not_ge).trans (if_neg free.ne')))
  · exact Shape.fields_withSeq ..
  · exact fun q other => Shape.seqOf_withSeq_of_ne d other _
  · rw [Shape.insertEntry, Shape.seqOf_withSeq_same, insertIdx_eq_take_drop _ _ _ at_]
  · exact congrArg Host.Outcome.next (linkCommand_owner admits rfl fun l => withDraft_of_none (s := s.withLink l) id none_ _)
  · exact congrArg Host.Outcome.next (linkCommand_owner admits rfl fun l => deletePhase_of_badParam (s := s.withLink l) id held out)
  · exact congrArg Host.Outcome.next (linkCommand_owner admits rfl fun l => deletePhase_entry (s := s.withLink l) id held at_)
  · exact Shape.fields_withSeq ..
  · exact fun q other => Shape.seqOf_withSeq_of_ne d other _
  · rw [Shape.deleteEntry, Shape.seqOf_withSeq_same, List.eraseIdx_eq_take_drop_succ]

theorem State.readPool_withLink (s : State) (l : LinkPort) :
    readPool (s.withLink l) =
      okWith (s.withLink l)
        { b4 := byteOf s.free, b5 := byteOf s.heldLive, b6 := byteOf s.heldDrafts, b7 := byteOf s.heldDraining } := by
  have live : (s.withLink l).heldLive = s.heldLive := rfl
  have drafts : (s.withLink l).heldDrafts = s.heldDrafts := rfl
  have draining : (s.withLink l).heldDraining = s.heldDraining := rfl
  rw [readPool, live, drafts, draining, State.withLink_free]

/-- Settles O19: three owners that answer, and the pool's account (R30). -/
theorem phaseReadsAndCheckDraftAnswer : Obligations.PhaseReadsAndCheckDraftAnswer := by
  refine ⟨fun f s p admits id => ⟨fun out => ?_, fun sel selected => ⟨fun none_ => ?_, fun gen engaged sh held => ⟨fun out => ?_,
    fun e at_ => ?_⟩⟩⟩, fun f s admits accounted =>
    ⟨s.free, s.heldLive, s.heldDrafts, s.heldDraining, rfl, rfl, rfl, rfl, accounted, ?_⟩, fun f s p admits id =>
    ⟨fun none_ => ?_, fun d held => ⟨fun passed => ?_, fun n pos failed => ?_⟩⟩⟩
  · exact congrArg Host.Outcome.next (linkCommand_owner admits rfl fun l => readPhase_of_badSelector (s := s.withLink l) id out)
  · exact congrArg Host.Outcome.next (linkCommand_owner admits rfl fun l => readPhase_of_none (s := s.withLink l) id selected none_)
  · exact congrArg Host.Outcome.next (linkCommand_owner admits rfl fun l =>
      readPhase_of_badPosition (s := s.withLink l) id selected held out)
  · exact congrArg Host.Outcome.next (linkCommand_owner admits rfl fun l =>
      readPhase_entry (s := s.withLink l) (v := (gen, engaged, sh)) id selected held at_)
  · exact congrArg Host.Outcome.next (linkCommand_owner admits rfl s.readPool_withLink)
  · exact congrArg Host.Outcome.next (linkCommand_owner admits rfl fun l => withDraft_of_none (s := s.withLink l) id none_ _)
  · exact congrArg Host.Outcome.next (linkCommand_owner admits rfl fun l => checkDraft_of_pass (s := s.withLink l) id held passed)
  · exact congrArg Host.Outcome.next (linkCommand_owner admits rfl fun l => checkDraft_of_fail (s := s.withLink l) id held failed)

end Sys2Proof.Machine
end


section
/-! The channels' commands (Chapters 4 to 6, 12.6, 12.7). -/

namespace Sys2Proof.Machine

/-! ### The channel named -/

theorem channelId?_eq_some_iff {b : Byte} {ch : ChannelId} : channelId? b = some ch ↔ b.toNat = ch.val := by
  have hc := ch.isLt
  unfold channelId?
  split
  · simp only [Option.some.injEq, Fin.ext_iff]
  · simp only [reduceCtorEq, false_iff]; omega

theorem channelId?_eq_none_iff {b : Byte} : channelId? b = none ↔ 8 ≤ b.toNat := by
  unfold channelId?
  split
  · simp only [reduceCtorEq, false_iff]; omega
  · simp only [true_iff]; omega

theorem withChannel_of_none {b : Byte} (hb : 8 ≤ b.toNat) (s : State) (k : ChannelId → State × Answer) :
    withChannel b s k = refuse s .badTarget := by
  rw [withChannel, channelId?_eq_none_iff.mpr hb]

theorem withChannel_of_id {b : Byte} {ch : ChannelId} (hb : b.toNat = ch.val) (s : State) (k : ChannelId → State × Answer) :
    withChannel b s k = k ch := by
  rw [withChannel, channelId?_eq_some_iff.mpr hb]

theorem bindChannel_of_badChannel {f : Frame} (hb : 8 ≤ f.b2.toNat) (s : State) : bindChannel f s = refuse s .badTarget := by
  unfold bindChannel
  rw [channelId?_eq_none_iff.mpr hb]

/-- Settles O23: BIND looks at both its targets first, CLEAR_FAULTS asks for ALL first, and the others look at the channel. -/
theorem outOfRangeChannelIsBadTarget : Obligations.OutOfRangeChannelIsBadTarget := by
  intro c f s admits named out notAll
  have refused (owner : State → State × Answer) (ho : ∀ t, owner t = refuse t .badTarget) :
      Host.Outcome.next (linkCommand c f s owner) = (.next (s.replied c f .badTarget {}) : Out) :=
    congrArg Host.Outcome.next (linkCommand_refuse admits ho)
  simp only [List.mem_cons, List.not_mem_nil, or_false] at named
  rcases named with rfl | rfl | rfl | rfl | rfl | rfl | rfl | rfl
  · exact refused _ (bindChannel_of_badChannel out)
  · exact refused _ fun t => withChannel_of_none out t _
  · exact refused _ fun t => withChannel_of_none out t _
  · exact refused _ fun t => withChannel_of_none out t _
  · exact refused _ fun t => withChannel_of_none out t _
  · exact refused _ fun t => withChannel_of_none out t _
  · exact refused _ fun t => withChannel_of_none out t _
  · refine refused _ fun t => (if_neg fun all => ?_).trans (withChannel_of_none out t _)
    exact notAll rfl (by rw [all]; rfl)

/-! ### The activity state (R62) -/

/-- A channel that is not driving is FAULTED with a latch, and otherwise READY or UNBOUND by its binding (R62). -/
theorem State.activity_of_idle {s : State} {ch : ChannelId} (idle : (s.channel ch).running = none) :
    s.activity ch = if (s.chFault ch).latched then .faulted else if (s.channel ch).binding.isSome then .ready else .unbound := by
  simp only [State.activity, idle]

/-- A driving channel is RELEASING in its release sequence, HOLDING in an open-ended phase, and ENERGIZING otherwise (R62). -/
theorem State.activity_of_running {s : State} {ch : ChannelId} {a : Actuation} (running : (s.channel ch).running = some a) :
    s.activity ch =
      if a.seq = .release then .releasing
      else if (s.phaseOf a).any (fun ph => ph.duration = 0) then .holding else .energizing := by
  cases seq : a.seq <;> simp [State.activity, running, seq]

/-! ### BIND and UNBIND -/

/-- The code of a bound channel's activity state while it does not drive (R62, 12.4). -/
theorem State.activityCode_bound {s : State} {ch : ChannelId} (idle : (s.channel ch).running = none)
    (bound : (s.channel ch).binding.isSome = true) :
    byteOf (activityCode (s.activity ch)) = if (s.chFault ch).latched then 5 else 1 := by
  rw [State.activity_of_idle idle, if_pos bound]
  split <;> rfl

/-- A binding to a profile where there was none: its count is one higher (R6). -/
theorem State.bindTo_of_none {s : State} {ch : ChannelId} (p : ProfileId) (unbound : (s.channel ch).binding = none) :
    s.bindTo ch p =
      (s.setProfile p { s.profile p with bindingCount := (s.profile p).bindingCount + 1 }).setChannel ch
        { s.channel ch with binding := some p } := by
  simp [State.bindTo, State.removeBinding, unbound, State.countBinding]

/-- A binding that replaces another: both counts move (R6). -/
theorem State.bindTo_of_other {s : State} {ch : ChannelId} {p q : ProfileId} (bound : (s.channel ch).binding = some q) (other : q ≠ p) :
    s.bindTo ch p =
      ((s.setProfile q { s.profile q with bindingCount := (s.profile q).bindingCount - 1 }).setProfile p
        { s.profile p with bindingCount := (s.profile p).bindingCount + 1 }).setChannel ch
        { s.channel ch with binding := some p } := by
  have kept : (s.uncountBinding q).profile p = s.profile p := by
    rw [State.uncountBinding, State.profile_setProfile, if_neg other.symm]
  have removed : s.removeBinding ch = (s.uncountBinding q).setChannel ch { s.channel ch with binding := none } := by
    simp only [State.removeBinding, bound]
  have moved (u : State) (c d : Channel) : ((u.setChannel ch c).countBinding p).setChannel ch d = (u.countBinding p).setChannel ch d :=
    (u.countBinding p).setChannel_setChannel ch c d
  rw [State.bindTo, if_neg (by rw [bound]; simpa using other), removed, moved, State.countBinding, kept,
    State.channel_setChannel_same]
  rfl

/-- What an accepted BIND leaves of a channel that was not driving (R66). -/
theorem State.acceptBind_of_none {s : State} {ch : ChannelId} (p : ProfileId) (idle : (s.channel ch).running = none)
    (unbound : (s.channel ch).binding = none) :
    s.acceptBind ch p =
      (s.setProfile p { s.profile p with bindingCount := (s.profile p).bindingCount + 1 }).setChannel ch
        { s.channel ch with
          binding := some p
          edgeArmed := if (s.chFault ch).latched then (s.channel ch).edgeArmed
            else decide ((s.channel ch).ctlSeen = .deasserted) } := by
  rw [State.acceptBind, State.activity_of_idle idle, State.bindTo_of_none p unbound]
  cases latched : (s.chFault ch).latched with
  | true => simp
  | false =>
    simp [unbound, State.settleEdge, State.ready, State.driving, idle, latched, Channel.edgeFromLine]

theorem State.acceptBind_of_bound {s : State} {ch : ChannelId} (p : ProfileId) (idle : (s.channel ch).running = none)
    (bound : (s.channel ch).binding.isSome = true) : s.acceptBind ch p = s.bindTo ch p := by
  rw [State.acceptBind, State.activity_of_idle idle, if_pos bound, if_neg]
  split <;> nofun

section
variable {f : Frame} {s : State} {ch : ChannelId} (id : f.b2.toNat = ch.val)
include id

theorem bindChannel_of_ids {p : ProfileId} (named : f.b3.toNat = p.val + 1) :
    bindChannel f s =
      if s.driving ch then refuse s .busy
      else if (s.profile p).live.isNone then refuse s .noProfile
      else okWith (s.acceptBind ch p)
        { b4 := byteOf (activityCode ((s.acceptBind ch p).activity ch)), b5 := byteOf ((s.acceptBind ch p).profile p).bindingCount } := by
  rw [bindChannel, channelId?_eq_some_iff.mpr id, profileId?_eq_some_iff.mpr named]

theorem unbindChannel_of_id :
    unbindChannel f s =
      if s.driving ch then
        if (s.channel ch).unbindPending then refuse s .unbindPending
        else okWith (s.setChannel ch { s.channel ch with unbindPending := true }) { b4 := 2 }
      else if (s.channel ch).binding.isNone then refuse s .unbound
      else okWith (s.unbindNow ch) { b4 := 1 } := by
  rw [unbindChannel, withChannel_of_id id]

end

/-- An UNBIND of a channel that does not drive (R67, R73). -/
theorem State.unbindNow_of_bound {s : State} {ch : ChannelId} {q : ProfileId} (bound : (s.channel ch).binding = some q) :
    s.unbindNow ch =
      (s.setProfile q { s.profile q with bindingCount := (s.profile q).bindingCount - 1 }).setChannel ch
        { s.channel ch with binding := none, edgeArmed := false } := by
  simp [State.unbindNow, State.removeBinding, bound, State.uncountBinding]

/-- Settles O24: the owners' branches, and what each leaves of the channel and of the counts. -/
theorem bindAndUnbindMoveBindingAndCounts : Obligations.BindAndUnbindMoveBindingAndCounts := by
  intro f s ch id
  refine ⟨fun p admits named => ?_, fun admits => ?_⟩
  · have owner (u : State) := bindChannel_of_ids (s := u) id named
    refine ⟨fun driving => ?_, fun idle absent => ?_, fun idle live => ?_⟩
    · exact congrArg Host.Outcome.next (linkCommand_owner admits rfl fun l => (owner (s.withLink l)).trans (if_pos driving))
    · have still : s.driving ch = false := by rw [State.driving, idle]; rfl
      exact congrArg Host.Outcome.next (linkCommand_owner admits rfl fun l => (owner (s.withLink l)).trans
        ((if_neg (Bool.eq_false_iff.mp still)).trans (if_pos (Option.isNone_iff_eq_none.mpr absent))))
    · have still : ¬s.driving ch = true := by rw [State.driving, idle]; nofun
      have present : ¬(s.profile p).live.isNone = true := by rw [Option.isNone_iff_eq_none, ← Option.not_isSome_iff_eq_none]; exact not_not.mpr live
      have accepted {t : State} {d : ReplyData} (link : t.link = s.link) (left : ∀ l, (s.withLink l).acceptBind ch p = t.withLink l)
          (b4 : byteOf (activityCode (t.activity ch)) = d.b4) (b5 : byteOf (t.profile p).bindingCount = d.b5)
          (rest : d = { b4 := d.b4, b5 := d.b5 }) : exec (.bind f) s = .next (t.replied .bind f .ok d) := by
        refine congrArg Host.Outcome.next (linkCommand_owner admits link fun l => ?_)
        refine (owner (s.withLink l)).trans ((if_neg still).trans ((if_neg present).trans ?_))
        rw [left, rest, ← b4, ← b5]
        rfl
      refine ⟨fun same => ?_, fun unbound => ?_, fun q bound other => ?_⟩
      · have bound : (s.channel ch).binding.isSome = true := by rw [same]; rfl
        refine accepted rfl (fun l => ?_) (State.activityCode_bound idle bound) rfl rfl
        rw [State.acceptBind_of_bound p (s := s.withLink l) idle bound, State.bindTo_same (s.withLink l) _ _ same]
      · refine accepted (t := (s.setProfile p _).setChannel ch _) rfl
          (fun l => State.acceptBind_of_none p (s := s.withLink l) idle unbound) ?_ ?_ rfl
        · refine State.activityCode_bound ?_ ?_ <;> rw [State.channel_setChannel_same] <;> [exact idle; rfl]
        · exact congrArg (fun e : Profile => byteOf e.bindingCount) (State.profile_setProfile_same _ p _)
      · have held : (s.channel ch).binding.isSome = true := by rw [bound]; rfl
        refine accepted (t := ((s.setProfile q _).setProfile p _).setChannel ch _) rfl (fun l => ?_) ?_ ?_ rfl
        · rw [State.acceptBind_of_bound p (s := s.withLink l) idle held, State.bindTo_of_other (s := s.withLink l) bound other]
          rfl
        · refine State.activityCode_bound ?_ ?_ <;> rw [State.channel_setChannel_same] <;> [exact idle; rfl]
        · exact congrArg (fun e : Profile => byteOf e.bindingCount) (State.profile_setProfile_same _ p _)
  · have owner (u : State) := unbindChannel_of_id (s := u) id
    refine ⟨fun driving => ⟨fun pending => ?_, fun free => ?_⟩, fun idle => ⟨fun unbound => ?_, fun q bound => ?_⟩⟩
    · exact congrArg Host.Outcome.next (linkCommand_owner admits rfl fun l => (owner (s.withLink l)).trans
        ((if_pos driving).trans (if_pos pending)))
    · exact congrArg Host.Outcome.next (linkCommand_owner admits rfl fun l => (owner (s.withLink l)).trans
        ((if_pos driving).trans (if_neg (Bool.eq_false_iff.mp free))))
    · have still : ¬s.driving ch = true := by rw [State.driving, idle]; nofun
      exact congrArg Host.Outcome.next (linkCommand_owner admits rfl fun l => (owner (s.withLink l)).trans
        ((if_neg still).trans (if_pos (Option.isNone_iff_eq_none.mpr unbound))))
    · have still : ¬s.driving ch = true := by rw [State.driving, idle]; nofun
      have held : ¬(s.channel ch).binding.isNone = true := by rw [bound]; nofun
      refine congrArg Host.Outcome.next (linkCommand_owner admits rfl fun l => (owner (s.withLink l)).trans
        ((if_neg still).trans ((if_neg held).trans ?_)))
      rw [State.unbindNow_of_bound (s := s.withLink l) bound]
      rfl

end Sys2Proof.Machine
end


section
/-! SET_CHANNEL, the reads of a channel, and the starts and releases that the link asks for (R70, R71, R77, R78, R93 to R96, R120). -/

namespace Sys2Proof.Machine

/-! ### Bit fields -/

/-- A number written in two fields, the upper one above the lower (12.4). -/
theorem ofNat_append (w v x y : Nat) (fits : y < 2 ^ v) :
    BitVec.ofNat (w + v) (x * 2 ^ v + y) = BitVec.ofNat w x ++ BitVec.ofNat v y := by
  refine BitVec.eq_of_getLsbD_eq fun i hi => ?_
  rw [BitVec.getLsbD_append, BitVec.getLsbD_ofNat, BitVec.getLsbD_ofNat, BitVec.getLsbD_ofNat, Nat.mul_comm,
    Nat.testBit_two_pow_mul_add x fits]
  split
  · next low => rw [decide_eq_true hi, decide_eq_true low]
  · rw [decide_eq_true hi, decide_eq_true (show i - v < w by omega)]

theorem ofNat_bit (b : Bool) : BitVec.ofNat 1 (bit b) = BitVec.ofBool b := by
  cases b <;> rfl

/-- A flag below a number. -/
theorem ofNat_append_bit (w x : Nat) (b : Bool) : BitVec.ofNat (w + 1) (x * 2 + bit b) = BitVec.ofNat w x ++ BitVec.ofBool b := by
  rw [← ofNat_bit]
  exact ofNat_append w 1 x (bit b) (by cases b <;> decide)

theorem hiByte_append_loByte (n : Nat) : hiByte n ++ loByte n = BitVec.ofNat 16 n := by
  have split := ofNat_append 8 8 (n / 256) (n % 256) (Nat.mod_lt _ (by decide))
  have low : BitVec.ofNat 8 (n % 256) = loByte n := BitVec.eq_of_toNat_eq (by simp [loByte])
  have whole : n / 256 * 2 ^ 8 + n % 256 = n := Nat.div_add_mod' n 256
  rw [hiByte, ← low, ← split, whole]

theorem replyFlags_eq (a b c : Bool) : replyFlags a b c = BitVec.ofBool a ++ BitVec.ofBool b ++ BitVec.ofBool c := by
  revert a b c; decide

/-! ### SET_CHANNEL and READ_CHANNEL -/

theorem triggerOfCode_eq_some_iff {n : Nat} {t : TriggerSource} : triggerOfCode n = some t ↔ n = triggerCode t := by
  unfold triggerOfCode
  cases t <;> grind [triggerCode]

theorem activityCode_lt (x : Activity) : activityCode x < 2 ^ 3 := by
  cases x <;> decide

section
variable {f : Frame} {s : State} {ch : ChannelId} (id : f.b2.toNat = ch.val)
include id

theorem setChannelSettings_of_badTrigger (none_ : f.b3.toNat % 4 = 0) : setChannelSettings f s = refuse s .badParam := by
  rw [setChannelSettings, withChannel_of_id id, none_]
  rfl

theorem setChannelSettings_of_trigger {t : TriggerSource} (named : f.b3.toNat % 4 = triggerCode t) :
    setChannelSettings f s =
      if s.driving ch then refuse s .busy
      else okWith (s.applySettings ch t (f.b3.getLsbD 7)) { b4 := byteOf (bit (f.b3.getLsbD 7) * 128 + triggerCode t) } := by
  rw [setChannelSettings, withChannel_of_id id]
  simp only [triggerOfCode_eq_some_iff.mpr named]

theorem readChannel_of_id :
    readChannel f s =
      if f.b3 = 1 then okWith s (setupData s ch)
      else if f.b3 = 2 then okWith s (activityData s ch)
      else refuse s .badParam := by
  rw [readChannel, withChannel_of_id id]

end

/-- SETUP, bit by bit (12.6). -/
theorem setupData_eq (s : State) (ch : ChannelId) :
    setupData s ch =
      { b4 := match (s.channel ch).binding with | none => 0 | some p => BitVec.ofNat 8 (p.val + 1)
        b5 := BitVec.ofBool (s.channel ch).unbindPending ++ BitVec.ofBool (s.channel ch).openLoadCheck ++
          BitVec.ofBool (s.channel ch).edgeArmed ++ BitVec.ofBool (decide ((s.channel ch).ctlSeen = .asserted)) ++
          BitVec.ofBool (s.channel ch).unread ++ 0#1 ++
          (match (s.channel ch).trigger with | .pin => 1#2 | .link => 2#2 | .either => 3#2)
        b6 := BitVec.ofNat 8 (activityCode (s.activity ch)) } := by
  have coded : ∀ (a b c d e : Bool) (t : TriggerSource),
      byteOf (bit a * 128 + bit b * 64 + bit c * 32 + bit d * 16 + bit e * 8 + triggerCode t) =
        BitVec.ofBool a ++ BitVec.ofBool b ++ BitVec.ofBool c ++ BitVec.ofBool d ++ BitVec.ofBool e ++ 0#1 ++
          (match t with | .pin => 1#2 | .link => 2#2 | .either => 3#2) := by
    intro a b c d e t
    revert a b c d e
    cases t <;> decide
  simp only [setupData]
  congr 1
  · cases (s.channel ch).binding <;> rfl
  · exact coded ..

/-- ACTIVITY of a driving channel, bit by bit (12.6). -/
theorem activityData_of_running {s : State} {ch : ChannelId} {a : Actuation} (running : (s.channel ch).running = some a) :
    activityData s ch =
      { flags := BitVec.ofBool (decide (a.origin = .link)) ++
          BitVec.ofBool (!(s.profile a.profile).live.any fun v => v.gen = a.gen) ++ BitVec.ofBool a.heldFrom.isSome
        nibble := 0#1 ++ BitVec.ofNat 3 a.pos
        b4 := BitVec.ofNat 5 a.profile.val ++ BitVec.ofNat 3 (activityCode (s.activity ch))
        b5 := BitVec.ofNat 8 (a.gen / 256), b6 := BitVec.ofNat 8 a.gen
        b7 := BitVec.ofNat 8 (min 65535 (a.time / 2) / 256), b8 := BitVec.ofNat 8 (min 65535 (a.time / 2))
        b9 := BitVec.ofNat 8 (min 65535 (a.phaseTime / 2) / 256), b10 := BitVec.ofNat 8 (min 65535 (a.phaseTime / 2)) } := by
  have drains : decide (s.kindOf a.profile a.gen = .draining) = !(s.profile a.profile).live.any fun v => v.gen = a.gen := by
    have live := s.kindOf_eq_live_iff a.profile a.gen
    rw [Bool.eq_iff_iff, decide_eq_true_iff, Bool.not_eq_true', ← Bool.not_eq_true, Option.any_eq_true]
    simp only [decide_eq_true_iff, ← live]
    cases s.kindOf a.profile a.gen <;> simp
  have nibble : BitVec.ofNat 4 (a.pos % 8) = 0#1 ++ BitVec.ofNat 3 a.pos := by
    have low : BitVec.ofNat 3 (a.pos % 8) = BitVec.ofNat 3 a.pos := BitVec.eq_of_toNat_eq (by simp)
    have split := ofNat_append 1 3 0 (a.pos % 8) (Nat.mod_lt _ (by decide))
    rwa [Nat.zero_mul, Nat.zero_add, low] at split
  have b4 : byteOf (a.profile.val * 8 + activityCode (s.activity ch)) =
      BitVec.ofNat 5 a.profile.val ++ BitVec.ofNat 3 (activityCode (s.activity ch)) :=
    ofNat_append 5 3 _ _ (activityCode_lt _)
  unfold activityData
  simp only [running, replyFlags_eq, drains, nibble, b4]
  rfl

/-- Settles O25: the settings replaced, and the two replies bit by bit. -/
theorem setAndReadChannel : Obligations.SetAndReadChannel := by
  intro f s ch
  refine ⟨fun id => ⟨fun admits => ⟨fun none_ => ?_, fun t named => ⟨fun driving => ?_, fun idle => ⟨fun on => ?_, fun off => ?_⟩⟩⟩,
    fun admits => ⟨fun setup => ?_, fun activity => ?_, fun other other' => ?_⟩⟩, rfl, fun activity hactivity => ?_⟩
  · exact congrArg Host.Outcome.next (linkCommand_owner admits rfl fun l =>
      setChannelSettings_of_badTrigger (s := s.withLink l) id none_)
  · exact congrArg Host.Outcome.next (linkCommand_owner admits rfl fun l =>
      (setChannelSettings_of_trigger (s := s.withLink l) id named).trans (if_pos driving))
  · have still : ¬s.driving ch = true := by rw [State.driving, idle]; nofun
    refine congrArg Host.Outcome.next (linkCommand_owner admits rfl fun l =>
      (setChannelSettings_of_trigger (s := s.withLink l) id named).trans ((if_neg still).trans ?_))
    rw [on]
    rfl
  · have still : ¬s.driving ch = true := by rw [State.driving, idle]; nofun
    refine congrArg Host.Outcome.next (linkCommand_owner admits rfl fun l =>
      (setChannelSettings_of_trigger (s := s.withLink l) id named).trans ((if_neg still).trans ?_))
    rw [off]
    cases t <;> rfl
  · exact congrArg Host.Outcome.next (linkCommand_owner admits rfl fun l =>
      (readChannel_of_id (s := s.withLink l) id).trans (if_pos setup))
  · exact congrArg Host.Outcome.next (linkCommand_owner admits rfl fun l =>
      (readChannel_of_id (s := s.withLink l) id).trans ((if_neg (by rw [activity]; decide)).trans (if_pos activity)))
  · exact congrArg Host.Outcome.next (linkCommand_owner admits rfl fun l =>
      (readChannel_of_id (s := s.withLink l) id).trans ((if_neg other).trans (if_neg other')))
  · have code : activity = activityCode (s.activity ch) := by
      cases running : (s.channel ch).running with
      | none =>
        simp only [running] at hactivity
        rw [State.activity_of_idle running, hactivity]
        simp only [ChannelFault.latched, Bool.or_eq_true]
        split
        · rfl
        · split <;> rfl
      | some a =>
        simp only [running] at hactivity
        rw [State.activity_of_running running, hactivity]
        split
        · rfl
        · split <;> rfl
    rw [code]
    refine ⟨setupData_eq s ch, fun idle => ?_, fun a running => activityData_of_running running⟩
    unfold activityData
    simp only [idle]
    rfl

/-! ### ACTUATE and RELEASE -/

theorem State.activity_driving {s : State} {ch : ChannelId} {a : Actuation} (running : (s.channel ch).running = some a) :
    s.activity ch = .energizing ∨ s.activity ch = .holding ∨ s.activity ch = .releasing := by
  rw [State.activity_of_running running]
  split
  · exact .inr (.inr rfl)
  · split
    · exact .inr (.inl rfl)
    · exact .inl rfl

section
variable {f : Frame} {s : State} {ch : ChannelId} (id : f.b2.toNat = ch.val)
include id

theorem actuate_of_pin (pin : (s.channel ch).trigger = .pin) : actuate f s = refuse s .wrongSource := by
  rw [actuate, withChannel_of_id id, if_pos pin]

theorem actuate_of_running (link : (s.channel ch).trigger ≠ .pin) (running : (s.channel ch).running.isSome = true) :
    actuate f s = refuse s (if (s.channel ch).unbindPending then .unbindPending else .busy) := by
  obtain ⟨a, running⟩ := Option.isSome_iff_exists.mp running
  have driving : actuate f s = actuateDriving s ch := by
    rw [actuate, withChannel_of_id id, if_neg link]
    rcases State.activity_driving running with h | h | h <;> simp only [h]
  rw [driving, actuateDriving]
  split <;> rfl

theorem actuate_of_idle (link : (s.channel ch).trigger ≠ .pin) (idle : (s.channel ch).running = none) :
    actuate f s =
      if (s.chFault ch).latched then refuse s .faulted
      else if (s.channel ch).binding.isSome then actuateReady s ch else refuse s .unbound := by
  rw [actuate, withChannel_of_id id, if_neg link, State.activity_of_idle idle]
  cases (s.chFault ch).latched with
  | true => rfl
  | false => cases (s.channel ch).binding.isSome <;> rfl

theorem releaseChannel_of_idle (idle : (s.channel ch).running = none) : releaseChannel f s = refuse s .notActive := by
  rw [releaseChannel, withChannel_of_id id]
  simp only [idle]

theorem releaseChannel_of_releasing {a : Actuation} (running : (s.channel ch).running = some a) (seq : a.seq = .release) :
    releaseChannel f s = refuse s .notActive := by
  rw [releaseChannel, withChannel_of_id id]
  simp only [running, seq]

theorem releaseChannel_of_energizing {a : Actuation} (running : (s.channel ch).running = some a) (seq : a.seq = .energize) :
    releaseChannel f s = okWith (s.requestRelease ch a .link).1 (dispositionData (s.requestRelease ch a .link).2) := by
  rw [releaseChannel, withChannel_of_id id]
  simp only [running, seq]

end

/-- Settles O26: the owner's order, and the start of R78. -/
theorem actuateStartsReadyChannel : Obligations.ActuateStartsReadyChannel := by
  intro f s ch admits id
  refine ⟨fun pin => ?_, fun link => ⟨fun running => ?_, fun idle => ⟨fun latched => ?_, fun clear => ⟨fun unbound => ?_,
    fun p v bound live => ⟨fun withheld => ?_, fun free => ?_⟩⟩⟩⟩⟩
  · exact congrArg Host.Outcome.next (linkCommand_owner admits rfl fun l => actuate_of_pin (s := s.withLink l) id pin)
  · exact congrArg Host.Outcome.next (linkCommand_owner admits rfl fun l => actuate_of_running (s := s.withLink l) id link running)
  · exact congrArg Host.Outcome.next (linkCommand_owner admits rfl fun l =>
      (actuate_of_idle (s := s.withLink l) id link idle).trans (if_pos latched))
  · exact congrArg Host.Outcome.next (linkCommand_owner admits rfl fun l =>
      (actuate_of_idle (s := s.withLink l) id link idle).trans
        ((if_neg (Bool.eq_false_iff.mp clear)).trans (if_neg (by rw [State.withLink_channel, unbound]; nofun))))
  · have ready (u : State) (same : u.profile p = s.profile p) (bound : (u.channel ch).binding = some p) :
        actuateReady u ch = refuse u .withheld := by
      simp [actuateReady, State.start, bound, State.engage, same, live, withheld]
    exact congrArg Host.Outcome.next (linkCommand_owner admits rfl fun l =>
      (actuate_of_idle (s := s.withLink l) id link idle).trans ((if_neg (Bool.eq_false_iff.mp clear)).trans
        ((if_pos (by rw [State.withLink_channel, bound]; rfl)).trans (ready (s.withLink l) rfl bound))))
  · have ready (u : State) (bound : (u.channel ch).binding = some p) (live : (u.profile p).live = some v)
        (free : (u.profile p).withheld = false) :
        actuateReady u ch =
          okWith (u.started ch .link p v) { b4 := byteOf (idOf p), b5 := hiByte v.gen, b6 := loByte v.gen } := by
      rw [actuateReady, State.start_of_live .link bound live free]
    exact congrArg Host.Outcome.next (linkCommand_owner admits rfl fun l =>
      (actuate_of_idle (s := s.withLink l) id link idle).trans ((if_neg (Bool.eq_false_iff.mp clear)).trans
        ((if_pos (by rw [State.withLink_channel, bound]; rfl)).trans (ready (s.withLink l) bound live free))))

/-- Settles O27: a release request's three dispositions. -/
theorem releaseTakenHeldOrRefused : Obligations.ReleaseTakenHeldOrRefused := by
  intro f s ch admits id
  refine ⟨fun idle => ?_, fun a running => ⟨fun releasing => ?_, fun energizing => ⟨fun held => ⟨_, rfl, ?_⟩,
    fun free early => ⟨_, rfl, ?_⟩, fun free late => ⟨s.enterRelease ch .releasedLink, ?_, ?_⟩⟩⟩⟩
  · exact congrArg Host.Outcome.next (linkCommand_owner admits rfl fun l => releaseChannel_of_idle (s := s.withLink l) id idle)
  · exact congrArg Host.Outcome.next (linkCommand_owner admits rfl fun l =>
      releaseChannel_of_releasing (s := s.withLink l) id running releasing)
  · have request (u : State) : u.requestRelease ch a .link = (u, .alreadyHeld (u.minOnRemaining a)) := if_pos held
    refine congrArg Host.Outcome.next (linkCommand_owner admits rfl fun l =>
      (releaseChannel_of_energizing (s := s.withLink l) id running energizing).trans ?_)
    rw [request]
    rfl
  · have unheld : ¬a.heldFrom.isSome = true := by rw [free]; nofun
    have request (u : State) (same : u.shapeOf a = s.shapeOf a) :
        u.requestRelease ch a .link = (u.holding ch a .link, .held (u.minOnRemaining a)) :=
      (if_neg unheld).trans (if_neg (by rw [State.minOnPeriods, same]; exact Nat.not_le.mpr early))
    refine congrArg Host.Outcome.next (linkCommand_owner (t := s.holding ch a .link) admits rfl fun l =>
      (releaseChannel_of_energizing (s := s.withLink l) id running energizing).trans ?_)
    rw [request (s.withLink l) rfl]
    rfl
  · have unheld : ¬a.heldFrom.isSome = true := by rw [free]; nofun
    have request (u : State) (same : u.shapeOf a = s.shapeOf a) :
        u.requestRelease ch a .link = (u.enterRelease ch .releasedLink, .taken) :=
      (if_neg unheld).trans (if_pos (by rw [State.minOnPeriods, same]; exact late))
    have link := (ChannelOnly.enterRelease s ch .releasedLink).link
    refine congrArg Host.Outcome.next (linkCommand_owner admits link fun l =>
      (releaseChannel_of_energizing (s := s.withLink l) id running energizing).trans ?_)
    rw [request (s.withLink l) rfl, State.enterRelease_withLink]
    rfl
  · exact State.leavesEnergize_enterRelease running _

/-! ### READ_OUTCOME -/

theorem readOutcome_of_id {f : Frame} {s : State} {ch : ChannelId} (id : f.b2.toNat = ch.val) :
    readOutcome f s =
      if f.b3 = 1 then okWith (s.markRead ch) (summaryData (s.channel ch).outcome (s.channel ch).unread)
      else if f.b3 = 2 then okWith (s.markRead ch) (measuresData (s.channel ch).outcome (s.channel ch).unread)
      else refuse s .badParam := by
  rw [readOutcome, withChannel_of_id id]

/-- A held record's unread flag is cleared by the read (R120). -/
theorem State.markRead_of_held {s : State} {ch : ChannelId} {r : OutcomeRecord} (held : (s.channel ch).outcome = some r) :
    s.markRead ch = s.setChannel ch { s.channel ch with unread := false } :=
  if_pos (by rw [held]; rfl)

theorem State.markRead_of_empty {s : State} {ch : ChannelId} (empty : (s.channel ch).outcome = none) : s.markRead ch = s :=
  if_neg (by rw [empty]; nofun)

/-- The findings field, flag by flag (12.7). -/
theorem ofNat_findings (x : Nat) (a b c d e f : Bool) :
    BitVec.ofNat 16 (x * 64 + (bit a * 32 + bit b * 16 + bit c * 8 + bit d * 4 + bit e * 2 + bit f)) =
      BitVec.ofNat 10 x ++ BitVec.ofBool a ++ BitVec.ofBool b ++ BitVec.ofBool c ++ BitVec.ofBool d ++ BitVec.ofBool e ++
        BitVec.ofBool f := by
  have nested : x * 64 + (bit a * 32 + bit b * 16 + bit c * 8 + bit d * 4 + bit e * 2 + bit f) =
      (((((x * 2 + bit a) * 2 + bit b) * 2 + bit c) * 2 + bit d) * 2 + bit e) * 2 + bit f := by ring
  rw [nested, ofNat_append_bit 15, ofNat_append_bit 14, ofNat_append_bit 13, ofNat_append_bit 12, ofNat_append_bit 11,
    ofNat_append_bit 10]

/-- The upper ten bits of the last two bytes of SUMMARY: the profile, the origin and the end cause (12.7). -/
theorem ofNat_origin (p : Nat) (o : Bool) (c : EndCause) :
    BitVec.ofNat 10 (p * 32 + bit o * 16 + causeCode c) = BitVec.ofNat 5 p ++ BitVec.ofBool o ++ BitVec.ofNat 4 (causeCode c) := by
  have nested : p * 32 + bit o * 16 + causeCode c = (p * 2 + bit o) * 2 ^ 4 + causeCode c := by ring
  rw [nested, ofNat_append 6 4 _ _ (by cases c <;> decide), ofNat_append_bit 5]

/-- Settles O28: the record's two parts bit by bit, and the flag that a read clears. -/
theorem readOutcomeClearsUnread : Obligations.ReadOutcomeClearsUnread := by
  refine ⟨fun f s ch admits id => ?_, ?_⟩
  · have owner (l : LinkPort) := readOutcome_of_id (s := s.withLink l) id
    refine ⟨fun other other' => ?_, fun empty part => ?_, fun r held => ⟨fun summary => ?_, fun measures => ?_⟩⟩
    · exact congrArg Host.Outcome.next (linkCommand_owner admits rfl fun l => (owner l).trans
        ((if_neg other).trans (if_neg other')))
    · refine congrArg Host.Outcome.next (linkCommand_owner admits rfl fun l => (owner l).trans ?_)
      rw [State.markRead_of_empty (s := s.withLink l) empty, State.withLink_channel, empty]
      rcases part with summary | measures
      · exact if_pos summary
      · exact (if_neg (by rw [measures]; decide)).trans (if_pos measures)
    · refine congrArg Host.Outcome.next (linkCommand_owner admits rfl fun l => (owner l).trans ((if_pos summary).trans ?_))
      rw [State.markRead_of_held (s := s.withLink l) held, State.withLink_channel, held]
      rfl
    · refine congrArg Host.Outcome.next (linkCommand_owner admits rfl fun l => (owner l).trans
        ((if_neg (by rw [measures]; decide)).trans ((if_pos measures).trans ?_)))
      rw [State.markRead_of_held (s := s.withLink l) held, State.withLink_channel, held]
      rfl
  · rintro r unread d m q rfl rfl rfl
    refine ⟨⟨replyFlags_eq .., ?_, rfl, rfl, rfl, rfl, rfl, ?_⟩, ?_⟩
    · have coded : ∀ b : Bool, ∀ v : Verdict, BitVec.ofNat 4 (bit b * 8 + verdictCode v) =
          BitVec.ofBool b ++ 0#1 ++ BitVec.ofNat 2 (verdictCode v) := by
        intro b v
        cases b <;> cases v <;> decide
      refine (coded _ _).trans ?_
      cases r.verdict <;> rfl
    · have nested : r.profile.val * 2048 + bit (decide (r.origin = .link)) * 1024 + causeCode r.cause * 64 + findingsCode r.findings =
          (r.profile.val * 32 + bit (decide (r.origin = .link)) * 16 + causeCode r.cause) * 64 + findingsCode r.findings := by ring
      refine (hiByte_append_loByte _).trans ?_
      rw [nested, findingsCode, ofNat_findings, ofNat_origin]
      cases r.cause <;> rfl
    · unfold measuresData
      simp only [replyFlags_eq]
      rfl

end Sys2Proof.Machine
end


section
/-! What a period's end makes due: the unit's measurements and the moves of the cursor (R83, R90, R91, R95, R109, R111, R114). -/

namespace Sys2Proof.Machine

section
variable {s : State} {ch : ChannelId} {a : Actuation} (hr : s.inFullReset = false) (running : (s.channel ch).running = some a)
include hr running

theorem State.runningNow_of_running : s.runningNow ch = some a := by
  rw [State.runningNow, hr]
  exact running

theorem exec_dipConfirmed : exec (.dipConfirmed ch) s = .next (s.takeDip ch a) :=
  congrArg Host.Outcome.next (by rw [State.runningNow_of_running hr running])

theorem exec_resistanceSample : exec (.resistanceSample ch) s = .next (s.takeSample ch a) :=
  congrArg Host.Outcome.next (by rw [State.runningNow_of_running hr running])

theorem exec_phaseEnd :
    exec (.phaseEnd ch) s =
      .next (if !s.phaseDue ch a then s else if s.minOnDue a then s.takeHeld ch a else s.endPhase ch) :=
  congrArg Host.Outcome.next (by rw [State.runningNow_of_running hr running])

theorem exec_holdExpired :
    exec (.holdExpired ch) s =
      .next (if !s.holdDue a then s else if s.minOnDue a then s.takeHeld ch a else s.enterRelease ch .holdExpired) :=
  congrArg Host.Outcome.next (by rw [State.runningNow_of_running hr running])

theorem exec_minOnReached : exec (.minOnReached ch) s = .next (if s.minOnDue a then s.takeHeld ch a else s) :=
  congrArg Host.Outcome.next (by rw [State.runningNow_of_running hr running])

end

/-! ### DIP_CONFIRMED and RESISTANCE_SAMPLE -/

theorem Diag.dipDue_iff (u : Diag) (v : Fields) :
    u.dipDue v = true ↔ u.search = .searching ∧ 0 < u.dipCount ∧ v.dipPersistence ≤ u.dipCount := by
  simp only [Diag.dipDue, Bool.and_eq_true, decide_eq_true_eq, and_assoc]

theorem Diag.sampleDue_iff (u : Diag) (q : Seq) (ph : PhaseEntry) (phaseTime : Nat) :
    u.sampleDue q ph phaseTime = true ↔
      (q = .energize ∧ ph.kind = .holdCurrent ∧ ph.duration = 0) ∧ phaseTime = 400 ∧ u.sample = none := by
  simp only [Diag.sampleDue, openHold, Bool.and_eq_true, decide_eq_true_eq, Option.isNone_iff_eq_none, and_assoc]
  exact Iff.rfl

/-- Settles O36: each happening is the step its name has, due or not. -/
theorem dipAndResistanceAreTaken : Obligations.DipAndResistanceAreTaken := by
  intro s ch a hr running
  refine ⟨fun searching some_ enough => ?_, fun ph phase seq kind openEnded late fresh => ⟨_, rfl, ?_⟩, fun t u dip sample => ?_,
    fun notDue => ?_, fun notDue => ?_⟩
  · rw [exec_dipConfirmed hr running, State.takeDip, if_pos ((Diag.dipDue_iff _ _).mpr ⟨searching, some_, enough⟩)]
    rfl
  · have due : ((s.phaseOf a).any fun ph => (s.diag ch).sampleDue a.seq ph a.phaseTime) = true := by
      rw [phase, Option.any_some]
      exact (Diag.sampleDue_iff ..).mpr ⟨⟨seq, kind, openEnded⟩, late, fresh⟩
    rw [exec_resistanceSample hr running, State.takeSample, if_pos due]
    cases window : (s.shapeOf a).fields.resistanceWindow <;> simp only [Diag.takeSample, judgeResistance, window] <;> rfl
  · rw [exec_dipConfirmed hr running] at dip
    cases dip
    have still : ((s.takeDip ch a).channel ch).running = some a := by
      rw [State.takeDip_eq_setDiag, State.setDiag_channel, running]
    have out : (s.takeDip ch a).inFullReset = false := by rw [State.takeDip_eq_setDiag, State.setDiag_inFullReset, hr]
    rw [exec_resistanceSample out still] at sample
    cases sample
    simp only [State.settleUnit, running]
  · have undue : (s.diag ch).dipDue (s.shapeOf a).fields ≠ true := by
      rw [ne_eq, Diag.dipDue_iff]
      rintro ⟨searching, some_, enough⟩
      rcases notDue with h | h | h
      · exact h searching
      · omega
      · omega
    rw [exec_dipConfirmed hr running, State.takeDip, if_neg undue]
  · have undue : ((s.phaseOf a).any fun ph => (s.diag ch).sampleDue a.seq ph a.phaseTime) ≠ true := by
      rw [ne_eq, Option.any_eq_true]
      rintro ⟨ph, -, due⟩
      obtain ⟨-, late, fresh⟩ := (Diag.sampleDue_iff ..).mp due
      rcases notDue with h | h
      · rw [fresh] at h; cases h
      · exact h late
    rw [exec_resistanceSample hr running, State.takeSample, if_neg undue]

/-! ### What is due of the cursor -/

section
variable {s : State} {ch : ChannelId} {a : Actuation} {ph : PhaseEntry} (phase : s.phaseOf a = some ph)

theorem State.minOnDue_iff (s : State) (a : Actuation) :
    s.minOnDue a = true ↔ a.seq = .energize ∧ a.heldFrom.isSome = true ∧ 2 * (s.shapeOf a).fields.minOn ≤ a.time := by
  simp only [State.minOnDue, Bool.and_eq_true, decide_eq_true_eq, and_assoc]
  exact Iff.rfl

/-- No held release is due where none is held or min_on is not reached (R95). -/
theorem State.minOnDue_of_early (early : a.heldFrom = none ∨ a.time < 2 * (s.shapeOf a).fields.minOn) : s.minOnDue a ≠ true := by
  rw [ne_eq, State.minOnDue_iff]
  rintro ⟨-, held, late⟩
  rcases early with free | early
  · rw [free] at held; cases held
  · omega

include phase

theorem State.phaseDue_iff :
    s.phaseDue ch a = true ↔ (0 < ph.duration ∧ 2 * ph.duration ≤ a.phaseTime) ∨
      (ph.kind = .fastDecay ∧ 0 < a.phaseTime ∧ (s.stage ch).sensed = 0) := by
  simp only [State.phaseDue, phase, Option.any_some, Bool.or_eq_true, Bool.and_eq_true, decide_eq_true_eq, and_assoc]

theorem State.holdDue_iff :
    s.holdDue a = true ↔ a.seq = .energize ∧ ph.duration = 0 ∧ 2000 * (s.shapeOf a).fields.holdCap ≤ a.phaseTime := by
  simp only [State.holdDue, phase, Option.any_some, Bool.and_eq_true, decide_eq_true_eq, and_assoc]
  exact Iff.rfl

/-- Whether the phase at the cursor is the last MOTION phase: it is marked, and none after it is (R111). -/
theorem lastMotion_iff (energizing : a.seq = .energize) :
    lastMotion (s.shapeOf a) a.pos = true ↔
      ph.motion = true ∧ ∀ j e, a.pos < j → (s.shapeOf a).energize[j]? = some e → e.motion = false := by
  have here : (s.shapeOf a).energize[a.pos]? = some ph := by
    rw [State.phaseOf, energizing] at phase
    exact phase
  have later : ((s.shapeOf a).energize.drop (a.pos + 1)).any (fun e => e.motion) = false ↔
      ∀ j e, a.pos < j → (s.shapeOf a).energize[j]? = some e → e.motion = false := by
    rw [List.any_eq_false]
    constructor
    · intro none_ j e after at_
      have found : ((s.shapeOf a).energize.drop (a.pos + 1))[j - (a.pos + 1)]? = some e := by
        rw [List.getElem?_drop, show a.pos + 1 + (j - (a.pos + 1)) = j by omega, at_]
      exact Bool.eq_false_iff.mpr (none_ e (List.mem_of_getElem? found))
    · intro none_ e mem
      obtain ⟨i, at_⟩ := List.mem_iff_getElem?.mp mem
      rw [List.getElem?_drop] at at_
      exact Bool.eq_false_iff.mp (none_ _ e (by omega) at_)
  simp only [lastMotion, here, Option.any_some, Bool.and_eq_true, Bool.not_eq_true', later]

end

/-! ### The moves -/

section
variable {s : State} {ch : ChannelId} {a : Actuation} (running : (s.channel ch).running = some a)
include running

/-- The diagnostic unit as a channel moves on within its energize sequence: what is due taken, and the search closed behind the last
MOTION phase (R107, R111). -/
def State.unitMovingOn (s : State) (ch : ChannelId) (a : Actuation) : Diag :=
  if lastMotion (s.shapeOf a) a.pos then ((s.settleUnit ch).diag ch).close (s.shapeOf a).fields else (s.settleUnit ch).diag ch

theorem State.endPhase_next (energizing : a.seq = .energize) (more : a.pos + 1 < (s.shapeOf a).energize.length) :
    s.endPhase ch =
      (s.setDiag ch (s.unitMovingOn ch a)).setChannel ch
        { s.channel ch with
          running := some { a with pos := a.pos + 1, phaseTime := 0, entryCurrent := (s.stage ch).sensed } } := by
  have unit := s.settleUnit_eq_setDiag ch
  unfold State.endPhase State.unitMovingOn
  simp only [running, energizing, if_pos more]
  generalize (s.settleUnit ch).diag ch = u at unit
  rw [unit]
  split
  · rw [State.closeSearch, State.diag_setDiag_same, State.setDiag_setDiag]
    simp only [State.moveTo, State.setRunning]
    rfl
  · simp only [State.moveTo, State.setRunning]
    rfl

theorem State.endPhase_leaves (energizing : a.seq = .energize) (last : (s.shapeOf a).energize.length ≤ a.pos + 1) :
    s.endPhase ch = s.enterRelease ch .selfTimed := by
  unfold State.endPhase
  simp only [running, energizing, if_neg last.not_gt]

theorem State.endPhase_release_next (releasing : a.seq = .release) (more : a.pos + 1 < (s.shapeOf a).release.length) :
    s.endPhase ch =
      s.setChannel ch
        { s.channel ch with
          running := some { a with pos := a.pos + 1, phaseTime := 0, entryCurrent := (s.stage ch).sensed } } := by
  unfold State.endPhase
  simp only [running, releasing, if_pos more, State.moveTo, State.setRunning]

theorem State.endPhase_release_ends (releasing : a.seq = .release) (last : (s.shapeOf a).release.length ≤ a.pos + 1) :
    s.endPhase ch = s.endActuation ch (a.noted.getD .selfTimed) := by
  unfold State.endPhase
  simp only [running, releasing, if_neg last.not_gt]

end

/-- Settles O34: which of the three ends is due, and where the cursor goes then. -/
theorem phaseEndsMoveTheCursor : Obligations.PhaseEndsMoveTheCursor := by
  refine ⟨fun s ch a ph hr running phase => ⟨fun energizing timed late early => ?_, fun releasing due => ?_,
    fun energizing openEnded capped early => ?_, fun source energizing held late => ?_⟩, fun u v => ⟨fun h => ?_, fun h => ?_,
    fun h dip time => ?_⟩⟩
  · have due : s.phaseDue ch a = true := (State.phaseDue_iff phase).mpr (.inl ⟨timed, late⟩)
    rw [exec_phaseEnd hr running, if_neg (by rw [due]; decide), if_neg (State.minOnDue_of_early early)]
    refine ⟨fun more => ⟨s.unitMovingOn ch a, congrArg Host.Outcome.next (State.endPhase_next running energizing more),
      fun last => if_pos ((lastMotion_iff phase energizing).mpr last), fun other => if_neg fun last => ?_⟩, fun last => ?_⟩
    · obtain ⟨marked, none_⟩ := (lastMotion_iff phase energizing).mp last
      rcases other with unmarked | ⟨j, e, after, at_, marked'⟩
      · rw [unmarked] at marked; cases marked
      · rw [none_ j e after at_] at marked'; cases marked'
    · exact ⟨_, congrArg Host.Outcome.next (State.endPhase_leaves running energizing last),
        State.leavesEnergize_enterRelease running _⟩
  · have isDue : s.phaseDue ch a = true := (State.phaseDue_iff phase).mpr due
    have none_ : s.minOnDue a ≠ true := by rw [ne_eq, State.minOnDue_iff, releasing]; rintro ⟨⟨⟩, -⟩
    rw [exec_phaseEnd hr running, if_neg (by rw [isDue]; decide), if_neg none_]
    refine ⟨fun more => congrArg Host.Outcome.next (State.endPhase_release_next running releasing more), fun cause noted last => ?_⟩
    rw [State.endPhase_release_ends running releasing last, noted, Option.getD_some]
  · have due : s.holdDue a = true := (State.holdDue_iff phase).mpr ⟨energizing, openEnded, capped⟩
    refine ⟨_, ?_, State.leavesEnergize_enterRelease running _⟩
    rw [exec_holdExpired hr running, if_neg (by rw [due]; decide), if_neg (State.minOnDue_of_early early)]
  · have due : s.minOnDue a = true := (State.minOnDue_iff s a).mpr ⟨energizing, by rw [held]; rfl, late⟩
    have taken : s.takeHeld ch a = s.enterRelease ch source.cause := by rw [State.takeHeld, held]; rfl
    refine ⟨s.enterRelease ch source.cause, ?_, ?_, fun timed out => ?_, fun openEnded capped => ?_⟩
    · rw [exec_minOnReached hr running, if_pos due, taken]
    · cases source <;> exact State.leavesEnergize_enterRelease running _
    · have isDue : s.phaseDue ch a = true := (State.phaseDue_iff phase).mpr (.inl ⟨timed, out⟩)
      rw [exec_phaseEnd hr running, if_neg (by rw [isDue]; decide), if_pos due, taken]
    · have isDue : s.holdDue a = true := (State.holdDue_iff phase).mpr ⟨energizing, openEnded, capped⟩
      rw [exec_holdExpired hr running, if_neg (by rw [isDue]; decide), if_pos due, taken]
  · rcases h with h | h <;> simp only [Diag.close, h]
  · rcases h with h | h <;> simp only [Diag.close, h]
  · have drift : u.close v = { u with search := .closed, motionFinding := driftFinding v dip } := by
      rcases h with h | h <;> simp only [Diag.close, h, time, Option.getD_some]
    rw [drift]
    cases window : v.travelWindow <;> simp only [driftFinding, window]

end Sys2Proof.Machine
end


section
/-! What the last period of a channel made due, taken row by row (R82, R90, R91, R95, R107), and the trip after it (R136, R139). -/

namespace Sys2Proof.Machine

/-! ### A channel with nothing due -/

/-- Nothing is due of a channel's last period: neither to its unit nor to its actuation. -/
def State.Rested (s : State) (ch : ChannelId) : Prop :=
  ∀ a, (s.channel ch).running = some a →
    (s.diag ch).dipDue (s.shapeOf a).fields = false ∧
      ((s.phaseOf a).any fun ph => (s.diag ch).sampleDue a.seq ph a.phaseTime) = false ∧
      s.minOnDue a = false ∧ s.holdDue a = false ∧ s.phaseDue ch a = false

theorem State.rested_of_idle {s : State} {ch : ChannelId} (idle : (s.channel ch).running = none) : s.Rested ch := fun a running => by
  rw [idle] at running; cases running

theorem State.settleDue_of_idle {s : State} {ch : ChannelId} (idle : (s.channel ch).running = none) : s.settleDue ch = s := by
  rw [State.settleDue, State.settleUnit_of_idle idle]
  simp only [State.settleEnds, idle]

theorem State.Rested.settleDue {s : State} {ch : ChannelId} (rested : s.Rested ch) : s.settleDue ch = s := by
  cases running : (s.channel ch).running with
  | none => exact State.settleDue_of_idle running
  | some a =>
    obtain ⟨dip, sample, minOn, hold, phase⟩ := rested a running
    have noDip : s.takeDip ch a = s := if_neg (Bool.eq_false_iff.mp dip)
    have noSample : s.takeSample ch a = s := if_neg (Bool.eq_false_iff.mp sample)
    have unit : s.settleUnit ch = s := by simp only [State.settleUnit, running, noDip, noSample]
    rw [State.settleDue, unit]
    simp only [State.settleEnds, running, minOn, hold, phase]
    rfl

/-! ### Nothing due to the unit or to a fresh phase -/

theorem Diag.dipDue_of_elsewhere {u : Diag} (v : Fields) (elsewhere : u.search ≠ .searching) : u.dipDue v = false := by
  simp [Diag.dipDue, elsewhere]

theorem Diag.dipDue_close (u : Diag) (v w : Fields) : (u.close v).dipDue w = false := by
  rcases Diag.close_search u v with h | h <;> exact Diag.dipDue_of_elsewhere w (by rw [h]; decide)

theorem Diag.dipDue_settled (u : Diag) (v : Fields) (a : Actuation) (sh : Shape) (st : Stage) :
    ((u.dipSettled v).sampleSettled a sh st).dipDue v = false := by
  have sampled (x : Diag) : (x.sampleSettled a sh st).dipDue v = x.dipDue v := by
    unfold Diag.sampleSettled
    split <;> rfl
  rw [sampled, Diag.dipSettled]
  split
  · exact Diag.dipDue_of_elsewhere v (show (u.confirmDip).search ≠ .searching by simp [Diag.confirmDip])
  · next undue => exact Bool.eq_false_iff.mpr undue

theorem Diag.sampleDue_settled (u : Diag) (a : Actuation) (sh : Shape) (st : Stage) :
    ((sh.seqOf a.seq)[a.pos]?.any fun ph => (u.sampleSettled a sh st).sampleDue a.seq ph a.phaseTime) = false := by
  by_cases due : ((sh.seqOf a.seq)[a.pos]?.any fun ph => u.sampleDue a.seq ph a.phaseTime) = true
  · have taken : u.sampleSettled a sh st = u.takeSample sh.fields st.duty st.sensed := if_pos due
    rw [taken, Option.any_eq_false]
    intro ph _
    simp [Diag.sampleDue, Diag.takeSample]
  · have left : u.sampleSettled a sh st = u := if_neg due
    rw [left]
    exact Bool.eq_false_iff.mpr due

section
variable {s : State} {ch : ChannelId} {a : Actuation} (fresh : a.phaseTime = 0)
include fresh

theorem State.sampleDue_of_fresh (u : Diag) : ((s.phaseOf a).any fun ph => u.sampleDue a.seq ph a.phaseTime) = false := by
  rw [Option.any_eq_false]
  intro ph _
  simp [Diag.sampleDue, fresh, Config.samplePeriod]

theorem State.phaseDue_of_fresh : s.phaseDue ch a = false := by
  rw [State.phaseDue, Option.any_eq_false]
  intro ph _
  simp only [fresh, Nat.le_zero, Nat.lt_irrefl, decide_false, Bool.and_false, Bool.false_and, Bool.or_false,
    Bool.and_eq_false_iff, decide_eq_false_iff_not]
  omega

theorem State.holdDue_of_fresh (cap : 1 ≤ (s.shapeOf a).fields.holdCap) : s.holdDue a = false := by
  have late : ¬Config.holdCapPeriods * (s.shapeOf a).fields.holdCap ≤ a.phaseTime := by
    rw [fresh, Config.holdCapPeriods]; omega
  rw [State.holdDue, decide_eq_false late, Bool.and_false]

end

theorem State.minOnDue_of_releasing (s : State) {a : Actuation} (releasing : a.seq = .release) : s.minOnDue a = false := by
  simp [State.minOnDue, releasing]

theorem State.holdDue_of_releasing (s : State) {a : Actuation} (releasing : a.seq = .release) : s.holdDue a = false := by
  simp [State.holdDue, releasing]

/-- The state with the unit's steps taken reads every shape as before. -/
theorem State.shapeOf_settleUnit (s : State) (ch : ChannelId) (b : Actuation) : (s.settleUnit ch).shapeOf b = s.shapeOf b := by
  rw [State.settleUnit_eq_setDiag, State.shapeOf_setDiag]

/-! ### What the ends leave is rested -/

section
variable {s : State} {ch : ChannelId} {a : Actuation} (running : (s.channel ch).running = some a)
include running

theorem State.rested_enterRelease (cause : EndCause) : (s.enterRelease ch cause).Rested ch := by
  obtain ⟨u, closed, -, left⟩ := State.leavesEnergize_enterRelease running cause
  rw [left]
  split
  · exact State.rested_of_idle (State.endActuation_running _ _ _)
  · intro b hb
    rw [State.channel_setChannel_same, Option.some.injEq] at hb
    subst hb
    refine ⟨?_, State.sampleDue_of_fresh rfl _, State.minOnDue_of_releasing _ rfl, State.holdDue_of_releasing _ rfl,
      State.phaseDue_of_fresh rfl⟩
    rw [State.setChannel_diag, State.diag_setDiag_same, closed]
    exact Diag.dipDue_close ..

/-- The unit of a channel whose steps have been taken has no dip due. -/
theorem State.dipDue_settleUnit : ((s.settleUnit ch).diag ch).dipDue (s.shapeOf a).fields = false := by
  rw [State.settleUnit_diag running]
  exact Diag.dipDue_settled ..

theorem State.rested_endPhase (cap : 1 ≤ (s.shapeOf a).fields.holdCap) (unit : (s.diag ch).dipDue (s.shapeOf a).fields = false)
    (free : s.minOnDue a = false) : (s.endPhase ch).Rested ch := by
  cases seq : a.seq with
  | energize =>
    by_cases more : a.pos + 1 < (s.shapeOf a).energize.length
    · rw [State.endPhase_next running seq more]
      intro b hb
      rw [State.channel_setChannel_same, Option.some.injEq] at hb
      subst hb
      refine ⟨?_, State.sampleDue_of_fresh rfl _, free, State.holdDue_of_fresh rfl cap, State.phaseDue_of_fresh rfl⟩
      rw [State.setChannel_diag, State.diag_setDiag_same, State.unitMovingOn]
      have settled := State.dipDue_settleUnit running
      split
      · exact Diag.dipDue_close ..
      · exact settled
    · rw [State.endPhase_leaves running seq (Nat.not_lt.mp more)]
      exact State.rested_enterRelease running _
  | release =>
    by_cases more : a.pos + 1 < (s.shapeOf a).release.length
    · rw [State.endPhase_release_next running seq more]
      intro b hb
      rw [State.channel_setChannel_same, Option.some.injEq] at hb
      subst hb
      exact ⟨unit, State.sampleDue_of_fresh rfl _, State.minOnDue_of_releasing _ seq, State.holdDue_of_releasing _ seq,
        State.phaseDue_of_fresh rfl⟩
    · rw [State.endPhase_release_ends running seq (Nat.not_lt.mp more)]
      exact State.rested_of_idle (State.endActuation_running _ _ _)

theorem State.settleUnit_running : ((s.settleUnit ch).channel ch).running = some a := by
  rw [State.settleUnit_eq_setDiag, State.setDiag_channel, running]

theorem State.rested_settleUnit (minOn : (s.settleUnit ch).minOnDue a = false) (hold : (s.settleUnit ch).holdDue a = false)
    (phase : (s.settleUnit ch).phaseDue ch a = false) : (s.settleUnit ch).Rested ch := by
  intro b hb
  rw [State.settleUnit_running running, Option.some.injEq] at hb
  subst hb
  refine ⟨?_, ?_, minOn, hold, phase⟩
  · rw [State.shapeOf_settleUnit]
    exact State.dipDue_settleUnit running
  · rw [State.phaseOf, State.shapeOf_settleUnit, State.settleUnit_diag running]
    exact Diag.sampleDue_settled ..

end

theorem State.settleEnds_of_running {s : State} {ch : ChannelId} {a : Actuation} (running : (s.channel ch).running = some a) :
    s.settleEnds ch =
      if s.minOnDue a then s.takeHeld ch a
      else if s.holdDue a then s.enterRelease ch .holdExpired
      else if s.phaseDue ch a then s.endPhase ch
      else s := by
  simp only [State.settleEnds, running]

/-- Taking what is due leaves nothing due: a phase that begins has no time behind it, and every version in range has a hold cap. -/
theorem State.rested_settleDue (s : State) (ch : ChannelId)
    (cap : ∀ a, (s.channel ch).running = some a → 1 ≤ (s.shapeOf a).fields.holdCap) : (s.settleDue ch).Rested ch := by
  cases running : (s.channel ch).running with
  | none =>
    rw [State.settleDue_of_idle running]
    exact State.rested_of_idle running
  | some a =>
    have running' := State.settleUnit_running running
    have shape := s.shapeOf_settleUnit ch a
    rw [State.settleDue, State.settleEnds_of_running running']
    cases minOn : (s.settleUnit ch).minOnDue a with
    | true => exact State.rested_enterRelease running' _
    | false =>
      cases hold : (s.settleUnit ch).holdDue a with
      | true => exact State.rested_enterRelease running' _
      | false =>
        cases phase : (s.settleUnit ch).phaseDue ch a with
        | true =>
          exact State.rested_endPhase running' (shape ▸ cap a running) (shape ▸ State.dipDue_settleUnit running) minOn
        | false => exact State.rested_settleUnit running minOn hold phase

/-! ### The rows one by one -/

section
variable {s : State} {ch : ChannelId}

theorem State.runningNow_of_idle (idle : (s.channel ch).running = none) : s.runningNow ch = none := by
  rw [State.runningNow, idle, ite_self]

/-- The rows of the cursor change nothing on a channel with nothing due. -/
theorem State.Rested.rows (rested : s.Rested ch) (hr : s.inFullReset = false) :
    exec (.holdExpired ch) s = .next s ∧ exec (.phaseEnd ch) s = .next s := by
  cases running : (s.channel ch).running with
  | none =>
    have idle := State.runningNow_of_idle running
    exact ⟨congrArg Host.Outcome.next (by rw [idle]), congrArg Host.Outcome.next (by rw [idle])⟩
  | some a =>
    obtain ⟨-, -, -, hold, phase⟩ := rested a running
    rw [exec_holdExpired hr running, exec_phaseEnd hr running, hold, phase]
    exact ⟨rfl, rfl⟩

/-- The rows of what is due, run in their order, take what is due (R82, R107). -/
theorem State.runs_dueRows (hr : s.inFullReset = false) : s.Runs (s.settleDue ch) (dueRows ch) := by
  cases running : (s.channel ch).running with
  | none =>
    have now := State.runningNow_of_idle running
    rw [State.settleDue_of_idle running]
    exact ⟨s, congrArg Host.Outcome.next (by rw [now]), s, congrArg Host.Outcome.next (by rw [now]),
      s, congrArg Host.Outcome.next (by rw [now]), s, congrArg Host.Outcome.next (by rw [now]),
      s, congrArg Host.Outcome.next (by rw [now]), rfl⟩
  | some a =>
    have dipRunning : ((s.takeDip ch a).channel ch).running = some a := by
      rw [State.takeDip_eq_setDiag, State.setDiag_channel, running]
    have dipOut : (s.takeDip ch a).inFullReset = false := by rw [State.takeDip_eq_setDiag, State.setDiag_inFullReset, hr]
    have unit : (s.takeDip ch a).takeSample ch a = s.settleUnit ch := by simp only [State.settleUnit, running]
    have unitRunning := State.settleUnit_running running
    have unitOut : (s.settleUnit ch).inFullReset = false := (ChannelOnly.settleUnit s ch).inFullReset.trans hr
    refine ⟨_, exec_dipConfirmed hr running, _, exec_resistanceSample dipOut dipRunning, ?_⟩
    rw [unit, State.settleDue, State.settleEnds_of_running unitRunning]
    have leaves (cause : EndCause) : ((s.settleUnit ch).enterRelease ch cause).Rested ch ∧
        ((s.settleUnit ch).enterRelease ch cause).inFullReset = false :=
      ⟨State.rested_enterRelease unitRunning cause, (ChannelOnly.enterRelease _ ch cause).inFullReset.trans unitOut⟩
    by_cases minOn : (s.settleUnit ch).minOnDue a = true
    · obtain ⟨rested, out⟩ := leaves ((a.heldFrom.map ReleaseSource.cause).getD .releasedLink)
      obtain ⟨hold, phase⟩ := rested.rows out
      rw [if_pos minOn]
      exact ⟨_, (exec_minOnReached unitOut unitRunning).trans (congrArg Host.Outcome.next (if_pos minOn)), _, hold, _, phase, rfl⟩
    · rw [if_neg minOn]
      refine ⟨_, (exec_minOnReached unitOut unitRunning).trans (congrArg Host.Outcome.next (if_neg minOn)), ?_⟩
      by_cases hold : (s.settleUnit ch).holdDue a = true
      · obtain ⟨rested, out⟩ := leaves .holdExpired
        obtain ⟨-, phase⟩ := rested.rows out
        rw [if_pos hold]
        exact ⟨_, (exec_holdExpired unitOut unitRunning).trans
          (congrArg Host.Outcome.next ((if_neg (by rw [hold]; decide)).trans (if_neg minOn))), _, phase, rfl⟩
      · rw [if_neg hold]
        refine ⟨_, (exec_holdExpired unitOut unitRunning).trans
          (congrArg Host.Outcome.next (if_pos (by rw [Bool.eq_false_iff.mpr hold]; rfl))), ?_⟩
        by_cases phase : (s.settleUnit ch).phaseDue ch a = true
        · rw [if_pos phase]
          exact ⟨_, (exec_phaseEnd unitOut unitRunning).trans
            (congrArg Host.Outcome.next ((if_neg (by rw [phase]; decide)).trans (if_neg minOn))), rfl⟩
        · rw [if_neg phase]
          exact ⟨_, (exec_phaseEnd unitOut unitRunning).trans
            (congrArg Host.Outcome.next (if_pos (by rw [Bool.eq_false_iff.mpr phase]; rfl))), rfl⟩

/-- A run of rows ends in one state. -/
theorem State.Runs.unique {rows : List Instr} {t u : State} (ht : s.Runs t rows) (hu : s.Runs u rows) : t = u := by
  induction rows generalizing s with
  | nil => exact Eq.trans ht (Eq.symm hu)
  | cons i rest ih =>
    obtain ⟨x, hx, ht⟩ := ht
    obtain ⟨y, hy, hu⟩ := hu
    rw [hx] at hy
    cases hy
    exact ih ht hu

theorem State.Runs.settleDue {t : State} (hr : s.inFullReset = false) (runs : s.Runs t (dueRows ch)) : s.settleDue ch = t :=
  (State.runs_dueRows hr).unique runs

end

/-! ### The latches' own happenings -/

theorem exec_openLoadLatchSet {s : State} (hr : s.inFullReset = false) (ch : ChannelId) :
    exec (.openLoadLatchSet ch) s = .next (if s.openLoadDue ch then s.latchOpenLoad ch else s) := by
  have run : exec (.openLoadLatchSet ch) s =
      .next (if !s.inFullReset ∧ s.openLoadDue ch then s.latchOpenLoad ch else s) := rfl
  rw [run, hr]
  simp only [Bool.not_false, true_and]

theorem exec_overcurrentTrip {s : State} (hr : s.inFullReset = false) (ch : ChannelId) :
    exec (.overcurrentTrip ch) s = .next (if (s.settleDue ch).watched ch then (s.settleDue ch).trip ch else s) := by
  have run : exec (.overcurrentTrip ch) s =
      .next (if !s.inFullReset ∧ (s.settleDue ch).watched ch then (s.settleDue ch).trip ch else s) := rfl
  rw [run, hr]
  simp only [Bool.not_false, true_and]

theorem State.openLoadDue_iff (s : State) (ch : ChannelId) :
    s.openLoadDue ch = true ↔ (s.channel ch).running = none ∧ (s.chFault ch).latched = false ∧
      (s.channel ch).openLoadCheck = true ∧ 6 ≤ (s.chFault ch).window := by
  simp only [State.openLoadDue, Bool.and_eq_true, Bool.not_eq_true', State.driving_eq_false_iff, decide_eq_true_eq, and_assoc]
  exact Iff.rfl

theorem State.watched_of_running {s : State} {ch : ChannelId} {a : Actuation} {ph : PhaseEntry}
    (running : (s.channel ch).running = some a) (phase : s.phaseOf a = some ph) : s.watched ch = decide (ph.kind ≠ .coast) := by
  have coast : ph.kind.watched = decide (ph.kind ≠ .coast) := by cases ph.kind <;> rfl
  simp only [State.watched, running, phase, Option.any_some, coast]

theorem State.watched_of_idle {s : State} {ch : ChannelId} (idle : (s.channel ch).running = none) : s.watched ch = false := by
  simp only [State.watched, idle]

/-- What a trip leaves at its channel: no actuation, the latch set, no edge armed and the stage OFF (R99, R136). -/
theorem State.trip_leaves {s : State} {ch : ChannelId} {a : Actuation} (running : (s.channel ch).running = some a) :
    ((s.trip ch).channel ch).running = none ∧ ((s.trip ch).chFault ch).overcurrent = true ∧
      ((s.trip ch).channel ch).edgeArmed = false ∧ ((s.trip ch).stage ch).mode = .off := by
  have latched : ∀ f : ChannelFault, (s.setChFault ch { f with overcurrent := true }).chFault ch = { f with overcurrent := true } :=
    fun f => State.chFault_setChFault_same ..
  generalize hf : ({ s.chFault ch with overcurrentPresent := true, tripPeriod := true } : ChannelFault) = f
  have tripped : s.trip ch = (s.setChFault ch { f with overcurrent := true }).endActuation ch .overcurrent := by rw [← hf]; rfl
  have running' : ((s.setChFault ch { f with overcurrent := true }).channel ch).running = some a := running
  obtain ⟨stage, -⟩ := State.endActuation_drive running' .overcurrent
  rw [tripped, (ChannelOnly.endActuation _ ch .overcurrent).chFault, latched, stage, State.endActuation_channel_same running', latched]
  refine ⟨rfl, rfl, ?_, rfl⟩
  simp [Channel.settled, ChannelFault.latched]

/-- Settles O41: each happening's condition, and what is due taken before the trip. -/
theorem latchesAreSetByTheirTrouble : Obligations.LatchesAreSetByTheirTrouble := by
  have settled (s u : State) (ch : ChannelId) (hr : s.inFullReset = false) (due : s.settleDue ch = u) :
      (∀ (a : Actuation) (ph : PhaseEntry), (u.channel ch).running = some a → u.phaseOf a = some ph →
        (ph.kind ≠ .coast → exec (.overcurrentTrip ch) s = .next (u.trip ch)) ∧
        (ph.kind = .coast → exec (.overcurrentTrip ch) s = .next s)) ∧
      ((u.channel ch).running = none → exec (.overcurrentTrip ch) s = .next s) := by
    rw [exec_overcurrentTrip hr, due]
    refine ⟨fun a ph running phase => ?_, fun idle => ?_⟩
    · rw [State.watched_of_running running phase]
      exact ⟨fun other => by rw [decide_eq_true other]; rfl, fun coast => by rw [coast]; rfl⟩
    · rw [State.watched_of_idle idle]
      rfl
  refine ⟨fun s ch hr idle clear check => ⟨fun full => ?_, fun short => ?_⟩, settled, fun s u ch hr runs => ?_⟩
  · rw [exec_openLoadLatchSet hr, if_pos ((s.openLoadDue_iff ch).mpr ⟨idle, clear, check, full⟩)]
    rfl
  · rw [exec_openLoadLatchSet hr, if_neg]
    rw [State.openLoadDue_iff]
    rintro ⟨-, -, -, full⟩
    omega
  · obtain ⟨driving, idle⟩ := settled s u ch hr (runs.settleDue hr)
    refine ⟨fun a ph running phase other => ?_, fun a ph running phase => (driving a ph running phase).2, idle⟩
    obtain ⟨ended, latch, edge, stage⟩ := State.trip_leaves running
    exact ⟨_, (driving a ph running phase).1 other, rfl, ended, latch, edge, stage⟩

end Sys2Proof.Machine
end


section
/-! The channels' lines and periods (R72 to R76, R82 to R89, R107 to R113, R138). -/

namespace Sys2Proof.Machine

/-! ### The level last seen -/

section
variable (s : State) (ch : ChannelId)

theorem State.endActuation_ctlSeen (cause : EndCause) :
    ((s.endActuation ch cause).channel ch).ctlSeen = (s.channel ch).ctlSeen := by
  cases running : (s.channel ch).running with
  | none => rw [State.endActuation_of_not_running cause running]
  | some a => rw [State.endActuation_channel_same running cause]; rfl

theorem State.enterRelease_ctlSeen (cause : EndCause) :
    ((s.enterRelease ch cause).channel ch).ctlSeen = (s.channel ch).ctlSeen := by
  cases running : (s.channel ch).running with
  | none => simp only [State.enterRelease, running]
  | some a =>
    obtain ⟨u, -, -, left⟩ := State.leavesEnergize_enterRelease running cause
    rw [left]
    split
    · exact State.endActuation_ctlSeen _ ch cause
    · rw [State.channel_setChannel_same]

theorem State.endPhase_ctlSeen : ((s.endPhase ch).channel ch).ctlSeen = (s.channel ch).ctlSeen := by
  cases running : (s.channel ch).running with
  | none => simp only [State.endPhase, running]
  | some a =>
    cases seq : a.seq with
    | energize =>
      by_cases more : a.pos + 1 < (s.shapeOf a).energize.length
      · rw [State.endPhase_next running seq more, State.channel_setChannel_same]
      · rw [State.endPhase_leaves running seq (Nat.not_lt.mp more), State.enterRelease_ctlSeen]
    | release =>
      by_cases more : a.pos + 1 < (s.shapeOf a).release.length
      · rw [State.endPhase_release_next running seq more, State.channel_setChannel_same]
      · rw [State.endPhase_release_ends running seq (Nat.not_lt.mp more), State.endActuation_ctlSeen]

theorem State.settleDue_ctlSeen : ((s.settleDue ch).channel ch).ctlSeen = (s.channel ch).ctlSeen := by
  cases running : (s.channel ch).running with
  | none => rw [State.settleDue_of_idle running]
  | some a =>
    have unit : ((s.settleUnit ch).channel ch).ctlSeen = (s.channel ch).ctlSeen := by
      rw [State.settleUnit_eq_setDiag, State.setDiag_channel]
    rw [State.settleDue, State.settleEnds_of_running (State.settleUnit_running running), ← unit]
    split
    · exact State.enterRelease_ctlSeen ..
    · split
      · exact State.enterRelease_ctlSeen ..
      · split
        · exact State.endPhase_ctlSeen ..
        · rfl

theorem State.settleChannel_ctlSeen : ((s.settleChannel ch).channel ch).ctlSeen = (s.channel ch).ctlSeen := by
  rcases s.settleChannel_cases ch with ⟨-, e⟩ | ⟨-, e⟩ <;> rw [e]
  · rw [State.latchOpenLoad, State.channel_setChannel_same]
    exact s.settleDue_ctlSeen ch
  · exact s.settleDue_ctlSeen ch

theorem State.drivenPeriod_ctlSeen (a : Actuation) (r : PeriodReport) :
    ((s.drivenPeriod ch a r).channel ch).ctlSeen = (s.channel ch).ctlSeen := by
  unfold State.drivenPeriod
  split
  · rfl
  · split
    · rw [State.endPhase_ctlSeen, State.setDiag_channel, State.setRunning, State.channel_setChannel_same, State.setStage_channel]
    · rw [State.setDiag_channel, State.setRunning, State.channel_setChannel_same, State.setStage_channel]

end

/-! ### One period, and the sample at its end -/

/-- What a period does before it samples the line: what was due is taken, and the stage works (R72, R82). -/
def State.stagePeriod (s : State) (ch : ChannelId) (r : PeriodReport) : State :=
  match ((s.settleChannel ch).channel ch).running with
  | some a => (s.settleChannel ch).drivenPeriod ch a r
  | none => (s.settleChannel ch).idlePeriod ch r

theorem State.channelPeriod_eq (s : State) (ch : ChannelId) (r : PeriodReport) :
    s.channelPeriod ch r = (s.stagePeriod ch r).sampleLine ch r.ctl := rfl

theorem State.stagePeriod_frame (s : State) (ch : ChannelId) (r : PeriodReport) :
    (s.stagePeriod ch r).inFullReset = s.inFullReset ∧
      ((s.stagePeriod ch r).channel ch).ctlSeen = (s.channel ch).ctlSeen := by
  have settled : (s.settleChannel ch).inFullReset = s.inFullReset := by
    have due := (ChannelOnly.settleDue s ch).inFullReset
    rcases s.settleChannel_cases ch with ⟨-, e⟩ | ⟨-, e⟩ <;> rw [e] <;> exact due
  rw [← settled, ← s.settleChannel_ctlSeen ch, State.stagePeriod]
  split
  · next a _ => exact ⟨(ChannelOnly.drivenPeriod _ ch a r).inFullReset, State.drivenPeriod_ctlSeen _ ch a r⟩
  · exact ⟨rfl, rfl⟩

theorem exec_channelPeriod {s : State} (hr : s.inFullReset = false) (ch : ChannelId) (r : PeriodReport) :
    exec (.regulationPeriod (.channel ch r)) s = .next (s.channelPeriod ch r) :=
  congrArg Host.Outcome.next (if_neg (by rw [hr]; decide))

/-- Once what is due to a channel is taken, and its latch set where that is due, nothing is (R82, R139). -/
theorem State.settleChannel_settled {s : State} {ch : ChannelId} (rested : (s.settleDue ch).Rested ch) :
    (s.settleChannel ch).settleDue ch = s.settleChannel ch ∧ (s.settleChannel ch).openLoadDue ch = false := by
  rcases s.settleChannel_cases ch with ⟨due, e⟩ | ⟨undue, e⟩ <;> rw [e]
  · obtain ⟨idle, -⟩ := (State.openLoadDue_iff _ ch).mp due
    have still : (((s.settleDue ch).latchOpenLoad ch).channel ch).running = none := by
      rw [State.latchOpenLoad, State.channel_setChannel_same]
      exact idle
    have latched : (((s.settleDue ch).latchOpenLoad ch).chFault ch).latched = true := by
      rw [State.latchOpenLoad, State.setChannel_chFault, State.chFault_setChFault_same]
      exact Bool.or_true _
    refine ⟨State.settleDue_of_idle still, Bool.eq_false_iff.mpr fun due => ?_⟩
    obtain ⟨-, unlatched, -⟩ := (State.openLoadDue_iff _ ch).mp due
    rw [latched] at unlatched; cases unlatched
  · exact ⟨rested.settleDue, undue⟩

/-- A period on what the rows leave is the period itself. -/
theorem State.channelPeriod_settleChannel {s : State} {ch : ChannelId} (rested : (s.settleDue ch).Rested ch) (r : PeriodReport) :
    (s.settleChannel ch).channelPeriod ch r = s.channelPeriod ch r := by
  obtain ⟨due, latch⟩ := State.settleChannel_settled rested
  have again : (s.settleChannel ch).settleChannel ch = s.settleChannel ch := by
    rw [State.settleChannel, due, latch]
    rfl
  rw [State.channelPeriod_eq, State.channelPeriod_eq, State.stagePeriod, again]
  rfl

/-- OPEN_LOAD_LATCH_SET on what was due leaves what a period takes first. -/
theorem State.settleChannel_of_rows {s t u : State} {ch : ChannelId} (due : s.settleDue ch = t) (hr : t.inFullReset = false)
    (latch : exec (.openLoadLatchSet ch) t = .next u) : s.settleChannel ch = u := by
  rw [exec_openLoadLatchSet hr] at latch
  cases latch
  rw [State.settleChannel, due]

/-- In full reset a run of rows that full reset does not take ends where it began. -/
theorem State.runs_dueRows_of_reset {s t : State} {ch : ChannelId} (held : s.inFullReset = true) (runs : s.Runs t (dueRows ch)) :
    t = s := by
  have row {i : Instr} {u : State} (e : exec i s = .next u) (start : ∀ c, i ≠ .fullReset c) (stop : ∀ v h, i ≠ .fullResetEnd v h) :
      u = s := by
    rw [exec_of_reset held i start stop] at e
    cases e; rfl
  obtain ⟨a, ha, b, hb, c, hc, d, hd, e, he, last⟩ := runs
  obtain rfl := row ha nofun nofun
  obtain rfl := row hb nofun nofun
  obtain rfl := row hc nofun nofun
  obtain rfl := row hd nofun nofun
  obtain rfl := row he nofun nofun
  exact last

/-! ### A channel's line (R72 to R76) -/

theorem exec_ctlAsserted {s : State} (hr : s.inFullReset = false) (ch : ChannelId) :
    exec (.ctlAsserted ch) s = .next (s.sampleLine ch .asserted) :=
  congrArg Host.Outcome.next (if_neg (by rw [hr]; decide))

theorem exec_ctlDeasserted {s : State} (hr : s.inFullReset = false) (ch : ChannelId) :
    exec (.ctlDeasserted ch) s = .next (s.sampleLine ch .deasserted) :=
  congrArg Host.Outcome.next (if_neg (by rw [hr]; decide))

/-- The first sample, and one at the level last seen, leave that level and nothing else (R72). -/
theorem State.sampleLine_of_known {s : State} {ch : ChannelId} {level : LineLevel}
    (known : (s.channel ch).ctlSeen = .unsampled ∨ (s.channel ch).ctlSeen = seenAs level) :
    s.sampleLine ch level = s.setChannel ch { s.channel ch with ctlSeen := seenAs level } := by
  rcases known with first | same
  · simp only [State.sampleLine, first, State.seeLine]
  · rw [State.sampleLine_same same, ← same]
    exact (s.setChannel_self ch).symm

theorem State.ready_seeLine (s : State) (ch : ChannelId) (level : CtlSeen) : (s.seeLine ch level).ready ch = s.ready ch := by
  simp only [State.ready, State.driving, State.seeLine, State.channel_setChannel_same, State.setChannel_chFault]

/-- A pin start that R76 lets through (R78). -/
theorem State.pinStart_of_live {s : State} {ch : ChannelId} {p : ProfileId} {v : Version} (bound : (s.channel ch).binding = some p)
    (live : (s.profile p).live = some v) (edge : (s.channel ch).edgeArmed = true) (armed : s.modes.mode = .armed)
    (trigger : (s.channel ch).trigger ≠ .link) (free : (s.profile p).withheld = false) :
    s.pinStart ch = s.started ch .pin p v := by
  have allowed : s.pinStartAllowed ch = true := by simp [State.pinStartAllowed, edge, armed, trigger]
  simp only [State.pinStart, if_pos allowed, State.start_of_live .pin bound live free]

/-- A pin start that a condition of R76 refuses clears the edge-armed flag (R74). -/
theorem State.pinStart_refused {s : State} {ch : ChannelId} {p : ProfileId} {v : Version} (bound : (s.channel ch).binding = some p)
    (live : (s.profile p).live = some v)
    (refused : (s.channel ch).edgeArmed = false ∨ s.modes.mode ≠ .armed ∨ (s.channel ch).trigger = .link ∨
      (s.profile p).withheld = true) : s.pinStart ch = s.setEdge ch false := by
  rw [State.pinStart]
  by_cases allowed : s.pinStartAllowed ch = true
  · have withheld : (s.profile p).withheld = true := by
      simp only [State.pinStartAllowed, Bool.and_eq_true, decide_eq_true_eq] at allowed
      obtain ⟨⟨edge, armed⟩, trigger⟩ := allowed
      rcases refused with h | h | h | h
      · rw [edge] at h; cases h
      · exact absurd armed h
      · exact absurd h trigger
      · exact h
    have none_ : s.start ch .pin = none := by simp [State.start, bound, State.engage, live, withheld]
    rw [if_pos allowed, none_]
  · exact if_neg allowed

/-- A deassertion seen on a driving channel that the line did not start, or that holds a release, or that releases (R74, R95). -/
theorem State.pinRelease_passed {s : State} {ch : ChannelId} {a : Actuation}
    (passed : a.seq = .release ∨ a.origin = .link ∨ a.heldFrom.isSome = true) : s.pinRelease ch a = s := by
  unfold State.pinRelease
  split
  · next asked =>
    obtain ⟨energizing, pin⟩ := asked
    rcases passed with h | h | h
    · rw [energizing] at h; cases h
    · rw [pin] at h; cases h
    · rw [State.requestRelease, if_pos h]
  · rfl

theorem State.seeLine_running (s : State) (ch : ChannelId) (level : CtlSeen) :
    ((s.seeLine ch level).channel ch).running = (s.channel ch).running := by
  rw [State.seeLine, State.channel_setChannel_same]

theorem State.lineDeasserted_of_running {s : State} {ch : ChannelId} {a : Actuation} (running : (s.channel ch).running = some a) :
    s.lineDeasserted ch = (s.seeLine ch .deasserted).pinRelease ch a := by
  have still := (s.seeLine_running ch .deasserted).trans running
  simp only [State.lineDeasserted, still]

theorem State.lineDeasserted_of_idle {s : State} {ch : ChannelId} (idle : (s.channel ch).running = none) :
    s.lineDeasserted ch =
      if s.ready ch then (s.seeLine ch .deasserted).setEdge ch true else s.seeLine ch .deasserted := by
  have still := (s.seeLine_running ch .deasserted).trans idle
  simp only [State.lineDeasserted, still, State.ready_seeLine]

/-- A period does nothing with the level it samples but sample it. -/
theorem State.stagePeriod_ctl (s : State) (ch : ChannelId) (r : PeriodReport) (level : LineLevel) :
    s.stagePeriod ch { r with ctl := level } = s.stagePeriod ch r := rfl

theorem State.setEdge_seeLine (s : State) (ch : ChannelId) (level : CtlSeen) (armed : Bool) :
    (s.seeLine ch level).setEdge ch armed = s.setChannel ch { s.channel ch with ctlSeen := level, edgeArmed := armed } := by
  rw [State.seeLine, State.setEdge, State.channel_setChannel_same, State.setChannel_setChannel]

/-- Settles O29: the two samples by what was last seen and by the channel's state, and the period's sample as one of them. -/
theorem lineChangesActByChannelState : Obligations.LineChangesActByChannelState := by
  intro s ch hr
  rw [exec_ctlAsserted hr, exec_ctlDeasserted hr]
  refine ⟨fun first => ⟨congrArg Host.Outcome.next (State.sampleLine_of_known (.inl first)),
    congrArg Host.Outcome.next (State.sampleLine_of_known (.inl first))⟩,
    fun same => congrArg Host.Outcome.next (State.sampleLine_same same),
    fun same => congrArg Host.Outcome.next (State.sampleLine_same same), fun low => ?_, fun high u hu => ?_, fun r level t known period => ?_⟩
  · have asserted : s.sampleLine ch .asserted = s.lineAsserted ch := by simp only [State.sampleLine, low]
    rw [asserted, State.lineAsserted, State.ready_seeLine]
    refine ⟨fun unready => congrArg Host.Outcome.next (if_neg (Bool.eq_false_iff.mp unready)), fun ready p v bound live => ?_⟩
    have channel : (s.seeLine ch .asserted).channel ch = { s.channel ch with ctlSeen := .asserted } := State.channel_setChannel_same ..
    have bound' : ((s.seeLine ch .asserted).channel ch).binding = some p := by rw [channel]; exact bound
    rw [if_pos ready]
    refine ⟨fun ⟨edge, armed, trigger, free⟩ => congrArg Host.Outcome.next ?_, fun refused => congrArg Host.Outcome.next ?_⟩
    · exact State.pinStart_of_live bound' live (by rw [channel]; exact edge) armed (by rw [channel]; exact trigger) free
    · rw [State.pinStart_refused bound' live (by rw [channel]; exact refused), State.setEdge_seeLine]
  · have deasserted : s.sampleLine ch .deasserted = s.lineDeasserted ch := by simp only [State.sampleLine, high]
    subst hu
    rw [deasserted]
    refine ⟨fun idle ready => congrArg Host.Outcome.next ?_, fun idle unready => congrArg Host.Outcome.next ?_, fun a running => ?_⟩
    · rw [State.lineDeasserted_of_idle idle, if_pos ready, State.setEdge_seeLine]
    · rw [State.lineDeasserted_of_idle idle, if_neg (Bool.eq_false_iff.mp unready)]
      rfl
    · rw [State.lineDeasserted_of_running running]
      refine ⟨fun passed => congrArg Host.Outcome.next (State.pinRelease_passed passed), fun energizing pin free => ?_⟩
      have asked : (s.seeLine ch .deasserted).pinRelease ch a = ((s.seeLine ch .deasserted).requestRelease ch a .pin).1 :=
        if_pos ⟨energizing, pin⟩
      have unheld : ¬a.heldFrom.isSome = true := by rw [free]; nofun
      rw [asked, State.requestRelease, if_neg unheld]
      refine ⟨fun early => congrArg Host.Outcome.next ?_, fun late =>
        ⟨(s.seeLine ch .deasserted).enterRelease ch .releasedPin, congrArg Host.Outcome.next ?_, ?_⟩⟩
      · rw [if_neg (show ¬(s.seeLine ch .deasserted).minOnPeriods a ≤ a.time from Nat.not_le.mpr early)]
        rfl
      · rw [if_pos (show (s.seeLine ch .deasserted).minOnPeriods a ≤ a.time from late)]
        rfl
      · exact State.leavesEnergize_enterRelease ((s.seeLine_running ch .deasserted).trans running) _
  · obtain ⟨out, seen⟩ := s.stagePeriod_frame ch r
    rw [exec_channelPeriod hr, State.channelPeriod_eq, State.stagePeriod_ctl,
      State.sampleLine_same (seen.trans known)] at period
    cases period
    rw [exec_channelPeriod hr, State.channelPeriod_eq, exec_ctlAsserted (out.trans hr), exec_ctlDeasserted (out.trans hr)]
    cases r.ctl <;> rfl

/-! ### The idle period (R84, R138, R139) -/

theorem State.rested_settleDue_of_idle {s : State} {ch : ChannelId} (idle : (s.channel ch).running = none) :
    (s.settleDue ch).Rested ch := by
  rw [State.settleDue_of_idle idle]
  exact State.rested_of_idle idle

/-- What a period leaves of the fault items of a channel that does not drive, in the manual's words (R137 to R139). -/
theorem ChannelFault.period_eq (f : ChannelFault) (check : Bool) (r : PeriodReport) :
    f.period check r =
      { f with
        pull := if check = true ∧ f.tripPeriod = false then (if r.outOfBand then .outOfBand else .inBand) else .notRunning
        window := if check = true ∧ f.tripPeriod = false ∧ f.latched = false ∧ r.outOfBand = true then min 6 (f.window + 1) else 0
        overcurrentPresent := f.overcurrentPresent && (f.tripPeriod || decide (500 ≤ r.sensed))
        tripPeriod := false } := by
  have pulled : f.pulled check = true ↔ check = true ∧ f.tripPeriod = false := by simp [ChannelFault.pulled]
  have counted : (f.pulled check && !f.latched && r.outOfBand) = true ↔
      check = true ∧ f.tripPeriod = false ∧ f.latched = false ∧ r.outOfBand = true := by
    simp only [Bool.and_eq_true, pulled, Bool.not_eq_true', and_assoc]
  simp only [ChannelFault.period]
  congr 1
  · exact if_congr pulled rfl rfl
  · exact if_congr counted rfl rfl

/-- Settles O31: nothing but the latch is due of such a channel, and the stage and the pull check take the period. -/
theorem idlePeriodMeasures : Obligations.IdlePeriodMeasures := by
  refine ⟨fun s t ch r idle latch => ?_, fun s ch r hr idle undue known => ?_⟩
  · cases hr : s.inFullReset with
    | true =>
      rw [exec_of_reset hr (.openLoadLatchSet ch) nofun nofun] at latch
      cases latch
      rfl
    | false =>
      have rested := State.rested_settleDue_of_idle idle
      have settled := State.settleChannel_of_rows (State.settleDue_of_idle idle) hr latch
      have out : t.inFullReset = false := by
        rw [exec_openLoadLatchSet hr] at latch
        cases latch
        split <;> exact hr
      rw [exec_channelPeriod hr, exec_channelPeriod out, ← settled, State.channelPeriod_settleChannel rested]
  · have settled : s.settleChannel ch = s := by
      rw [State.settleChannel, State.settleDue_of_idle idle, undue]
      rfl
    have stage : s.stagePeriod ch r = s.idlePeriod ch r := by
      rw [State.stagePeriod, settled, idle]
    obtain ⟨-, seen⟩ := s.stagePeriod_frame ch r
    have line : (s.channelPeriod ch r) = (s.idlePeriod ch r).setChannel ch { s.channel ch with ctlSeen := seenAs r.ctl } := by
      rw [State.channelPeriod_eq, State.sampleLine_of_known (by rw [seen]; exact known), stage]
      rfl
    refine ⟨{ s.channel ch with ctlSeen := seenAs r.ctl }, ?_, fun sampled => ?_, fun _ => ?_⟩
    · rw [exec_channelPeriod hr, line, State.idlePeriod, ChannelFault.period_eq]
      rfl
    · rw [← known.resolve_left sampled]
    · cases r.ctl <;> rfl

/-! ### The driving period (R84 to R89, R107 to R113) -/

/-- A MOTION period neither reads nor reaches the hit's result and the supply voltage. -/
theorem Diag.motionPeriod_with (u : Diag) (v : Fields) (time sensed : Nat) (hit : HitResult) (supply : Nat) :
    ({ u with hit := hit, supply := supply } : Diag).motionPeriod v time sensed =
      { u.motionPeriod v time sensed with hit := hit, supply := supply } := by
  cases h : u.search with
  | searching | inDip =>
    simp only [Diag.motionPeriod, h]
    split <;> rfl
  | off | waiting | found | closed => simp only [Diag.motionPeriod, h]

end Sys2Proof.Machine
end


section
/-! The period of a driving channel (R82, R84 to R89, R107 to R113). -/

namespace Sys2Proof.Machine

/-! ### The stage and the unit in a period -/

/-- What a phase orders of the stage in one of its periods (R84 to R89). -/
theorem Stage.period_orders (st : Stage) (ph : PhaseEntry) (entry k : Nat) (r : PeriodReport) :
    (st.period ph entry k r).sensed = min 1023 r.sensed ∧
      (ph.kind = .rampCurrent → (st.period ph entry k r).mode = .regulate ∧ (st.period ph entry k r).duty = r.duty.toNat ∧
        (st.period ph entry k r).target = rampTarget (ph.start.getD entry) ph.level k (2 * ph.duration)) ∧
      (ph.kind = .holdCurrent → (st.period ph entry k r).mode = .regulate ∧ (st.period ph entry k r).duty = r.duty.toNat ∧
        (st.period ph entry k r).target = ph.level) ∧
      (ph.kind = .driveDuty → (st.period ph entry k r).mode = .duty ∧ (st.period ph entry k r).duty = ph.level ∧
        (st.period ph entry k r).target = 0) ∧
      (ph.kind = .fastDecay → (st.period ph entry k r).mode = .decay ∧ (st.period ph entry k r).duty = r.duty.toNat ∧
        (st.period ph entry k r).target = st.target) ∧
      (ph.kind = .coast → (st.period ph entry k r).mode = .off ∧ (st.period ph entry k r).duty = 0 ∧
        (st.period ph entry k r).target = st.target) := by
  cases kind : ph.kind <;> simp [Stage.period, kind, Config.maxSensed]

/-- The unit after a period of an energize phase: the search's step, the supply voltage and the hit's judgment (R107, R113, R114). -/
theorem Diag.period_energize (u : Diag) (v : Fields) (ph : PhaseEntry) (time phaseTime sensed vs : Nat) :
    u.period v .energize ph time phaseTime sensed vs =
      { (if ph.motion then u.motionPeriod v time sensed else u) with
        supply := vs
        hit := if ph.hit = true ∧ phaseTime = 2 * ph.duration ∧ u.hit = .notJudged then
          (if sensed + v.hitTolerance < ph.level then .short else .met) else u.hit } := by
  have judged : u.hitPeriod v ph phaseTime sensed =
      { u with
        hit := if ph.hit = true ∧ phaseTime = 2 * ph.duration ∧ u.hit = .notJudged then
          (if sensed + v.hitTolerance < ph.level then .short else .met) else u.hit } := by
    unfold Diag.hitPeriod
    by_cases due : ph.hit = true ∧ phaseTime = 2 * ph.duration ∧ u.hit = .notJudged
    · rw [if_pos due, if_pos (by simpa [and_assoc] using due)]
    · rw [if_neg due, if_neg (by simpa [and_assoc] using due)]
  unfold Diag.period
  rw [judged]
  cases ph.motion with
  | true => exact u.motionPeriod_with v time sensed _ vs
  | false => rfl

section
variable {u : Diag} {v : Fields} (time sensed : Nat)

/-- A MOTION period of a search that runs: the run goes on, or it breaks (R108). -/
theorem Diag.motionPeriod_searching {peak threshold : Nat} (search : u.search = .searching) (seen : u.peak = some peak)
    (dip : v.dipThreshold = some threshold) :
    u.motionPeriod v time sensed =
      if sensed + threshold < peak then
        { u with
          dipCount := u.dipCount + 1
          candStart := if u.dipCount = 0 then some time else u.candStart
          candLow := if u.dipCount = 0 then some sensed else some (min (u.candLow.getD sensed) sensed) }
      else { u with dipCount := 0, candStart := none, candLow := none, peak := some (max peak sensed) } := by
  simp only [Diag.motionPeriod, search, seen, dip, Option.getD_some, belowBy, decide_eq_true_eq]

/-- A MOTION period of a confirmed dip: the valley falls, or the dip has ended (R110). -/
theorem Diag.motionPeriod_inDip {peak valley threshold : Nat} (search : u.search = .inDip) (seen : u.dipPeak = some peak)
    (low : u.valley = some valley) (dip : v.dipThreshold = some threshold) :
    u.motionPeriod v time sensed =
      if sensed + threshold < peak then { u with valley := some (min valley sensed) } else { u with search := .found } := by
  simp only [Diag.motionPeriod, search, seen, low, dip, Option.getD_some, belowBy, decide_eq_true_eq]

theorem Diag.motionPeriod_waiting (search : u.search = .waiting) :
    u.motionPeriod v time sensed =
      { u with search := .searching, peak := some sensed, dipCount := 0, candStart := none, candLow := none } := by
  simp only [Diag.motionPeriod, search]

theorem Diag.motionPeriod_still (search : u.search = .off ∨ u.search = .found ∨ u.search = .closed) :
    u.motionPeriod v time sensed = u := by
  rcases search with h | h | h <;> simp only [Diag.motionPeriod, h]

end

/-! ### The period of a channel with nothing due -/

/-- A channel once its stage has worked for a period of the phase at its cursor, both times one on and the unit's report taken. -/
def State.driven (s : State) (ch : ChannelId) (a : Actuation) (ph : PhaseEntry) (r : PeriodReport) : State :=
  ((s.setStage ch ((s.stage ch).period ph a.entryCurrent (a.phaseTime + 1) r)).setChannel ch
    { s.channel ch with running := some { a with time := a.time + 1, phaseTime := a.phaseTime + 1 } }).setDiag ch
    ((s.diag ch).period (s.shapeOf a).fields a.seq ph (a.time + 1) (a.phaseTime + 1) (min Config.maxSensed r.sensed) s.monitor.vs)

section
variable {s : State} {ch : ChannelId} {a : Actuation} {ph : PhaseEntry} (r : PeriodReport)

theorem State.drivenPeriod_eq (phase : s.phaseOf a = some ph) :
    s.drivenPeriod ch a r =
      if ph.kind = .fastDecay ∧ r.sensed = 0 then (s.driven ch a ph r).endPhase ch else s.driven ch a ph r := by
  simp only [State.drivenPeriod, phase]
  rfl

/-- A period of a driving channel with nothing due: the stage's work, and the sample of the line at its end (R72, R82). -/
theorem exec_drivingPeriod (hr : s.inFullReset = false) (rested : s.settleDue ch = s) (running : (s.channel ch).running = some a)
    (known : (s.channel ch).ctlSeen = .unsampled ∨ (s.channel ch).ctlSeen = seenAs r.ctl) :
    exec (.regulationPeriod (.channel ch r)) s =
      .next
        ((s.drivenPeriod ch a r).setChannel ch { (s.drivenPeriod ch a r).channel ch with ctlSeen := seenAs r.ctl }) := by
  have undue : s.openLoadDue ch = false := Bool.eq_false_iff.mpr fun due => by
    obtain ⟨idle, -⟩ := (s.openLoadDue_iff ch).mp due
    rw [running] at idle; cases idle
  have settled : s.settleChannel ch = s := by
    rw [State.settleChannel, rested, undue]
    rfl
  have stage : s.stagePeriod ch r = s.drivenPeriod ch a r := by rw [State.stagePeriod, settled, running]
  obtain ⟨-, seen⟩ := s.stagePeriod_frame ch r
  rw [exec_channelPeriod hr, State.channelPeriod_eq, State.sampleLine_of_known (by rw [seen]; exact known), stage]

/-- A FAST_DECAY of the release sequence that sees no current: the stage decays, and the unit takes nothing (R88, R107). -/
theorem State.driven_released (kind : ph.kind = .fastDecay) (dead : r.sensed = 0) (releasing : a.seq = .release) :
    s.driven ch a ph r =
      (s.setStage ch { s.stage ch with mode := .decay, duty := r.duty.toNat, sensed := 0 }).setChannel ch
        { s.channel ch with running := some { a with time := a.time + 1, phaseTime := a.phaseTime + 1 } } := by
  have stage : (s.stage ch).period ph a.entryCurrent (a.phaseTime + 1) r =
      { s.stage ch with mode := .decay, duty := r.duty.toNat, sensed := 0 } := by
    simp only [Stage.period, kind, dead, Nat.min_zero]
  have unit (v : Fields) (time phaseTime sensed vs : Nat) : (s.diag ch).period v a.seq ph time phaseTime sensed vs = s.diag ch := by
    rw [releasing, Diag.period]
  rw [State.driven, stage, unit]
  exact State.setDiag_self _ ch

end

/-- Settles O30: the rows of what is due leave the state that a period works from, and from there the phase at the cursor says what
the stage, the times and the unit do. -/
theorem drivingPeriodFollowsPhase : Obligations.DrivingPeriodFollowsPhase := by
  refine ⟨fun s t u ch r runs latch cap => ?_, fun s ch r a ph hr rested running known phase => ⟨fun kind dead releasing st hst => ?_,
    fun other => ?_⟩⟩
  · cases hr : s.inFullReset with
    | true =>
      obtain rfl := State.runs_dueRows_of_reset hr runs
      rw [exec_of_reset hr (.openLoadLatchSet ch) nofun nofun] at latch
      cases latch
      exact ⟨rfl, nofun⟩
    | false =>
      have due := runs.settleDue hr
      have out : t.inFullReset = false := due ▸ (ChannelOnly.settleDue s ch).inFullReset.trans hr
      have settled := State.settleChannel_of_rows due out latch
      have left := s.rested_settleDue ch cap
      obtain ⟨again, latched⟩ := State.settleChannel_settled left
      have out' : u.inFullReset = false := by
        rw [exec_openLoadLatchSet out] at latch
        cases latch
        split <;> exact out
      rw [exec_channelPeriod hr, exec_channelPeriod out', ← settled, State.channelPeriod_settleChannel left]
      exact ⟨rfl, fun _ => ⟨due, again, latched⟩⟩
  · have ends : s.drivenPeriod ch a r = (s.driven ch a ph r).endPhase ch := (State.drivenPeriod_eq r phase).trans (if_pos ⟨kind, dead⟩)
    rw [exec_drivingPeriod r hr rested running known, ends, State.driven_released r kind dead releasing, ← hst]
    have running' : (((s.setStage ch st).setChannel ch { s.channel ch with
        running := some { a with time := a.time + 1, phaseTime := a.phaseTime + 1 } }).channel ch).running =
        some { a with time := a.time + 1, phaseTime := a.phaseTime + 1 } := by rw [State.channel_setChannel_same]
    have sensed : st.sensed = 0 := by rw [hst]
    refine ⟨fun more => congrArg Host.Outcome.next ?_, fun cause noted last t ht => congrArg Host.Outcome.next ?_⟩
    · rw [State.endPhase_release_next running' releasing more, State.channel_setChannel_same, State.channel_setChannel_same,
        State.setChannel_setChannel, State.setChannel_setChannel, State.setChannel_stage, State.stage_setStage_same, sensed]
    · rw [State.endPhase_release_ends running' releasing last, ht]
      simp only [noted, Option.getD_some]
  · have on : s.drivenPeriod ch a r = s.driven ch a ph r := (State.drivenPeriod_eq r phase).trans (if_neg other)
    obtain ⟨sensed, ramp, hold, duty, decay, coast⟩ := (s.stage ch).period_orders ph a.entryCurrent (a.phaseTime + 1) r
    refine ⟨_, (s.diag ch).period (s.shapeOf a).fields a.seq ph (a.time + 1) (a.phaseTime + 1) (min Config.maxSensed r.sensed)
      s.monitor.vs, ?_, sensed, ramp, hold, duty, decay, coast, fun releasing => ?_, fun energizing =>
      ⟨if ph.motion then (s.diag ch).motionPeriod (s.shapeOf a).fields (a.time + 1) (min Config.maxSensed r.sensed) else s.diag ch,
        ?_, fun unmarked => ?_, fun marked => ?_⟩⟩
    · rw [exec_drivingPeriod r hr rested running known, on, State.driven, State.setDiag_channel, State.channel_setChannel_same]
      refine congrArg (fun t : State => Host.Outcome.next (t.setDiag ch _)) (State.setChannel_setChannel ..)
    · rw [releasing, Diag.period]
    · rw [energizing]
      exact Diag.period_energize ..
    · rw [unmarked]; rfl
    · rw [marked, if_pos rfl]
      refine ⟨fun still => Diag.motionPeriod_still _ _ still, fun waiting => Diag.motionPeriod_waiting _ _ waiting,
        fun peak threshold search seen dip => ⟨fun below => ?_, fun above => ?_⟩,
        fun peak valley threshold search seen low dip => ⟨fun below => ?_, fun above => ?_⟩⟩
      · exact (Diag.motionPeriod_searching _ _ search seen dip).trans (if_pos below)
      · exact (Diag.motionPeriod_searching _ _ search seen dip).trans (if_neg above.not_gt)
      · exact (Diag.motionPeriod_inDip _ _ search seen low dip).trans (if_pos below)
      · exact (Diag.motionPeriod_inDip _ _ search seen low dip).trans (if_neg above.not_gt)

end Sys2Proof.Machine
end


section
/-! The fault unit's commands and the two of the mode controller that ask for a mode (R146, R148, R149, R157, R158). -/

namespace Sys2Proof.Machine

/-! ### ARM and LEAVE_SAFE -/

/-- Settles O44: the owners' answers by the mode they are asked in. -/
theorem armAndLeaveSafe : Obligations.ArmAndLeaveSafe := by
  refine ⟨fun f s admits => ⟨fun away => ?_, fun armed => ?_, fun standby => ⟨fun condition => ?_, fun uvm ovt =>
    ⟨fun session => ?_, fun closed => ?_⟩⟩⟩, fun f s admits => ⟨fun asserted => ?_, fun deasserted => ?_⟩⟩
  · have owner (u : State) (same : u.modes = s.modes) : armPart u = refuseArm u .mode := by
      rcases away with h | h <;> simp only [armPart, same, h]
    exact congrArg Host.Outcome.next (linkCommand_owner admits rfl fun l => owner (s.withLink l) rfl)
  · have owner (u : State) (same : u.modes = s.modes) : armPart u = okWith u {} := by
      simp only [armPart, same, armed]
    exact congrArg Host.Outcome.next (linkCommand_owner admits rfl fun l => owner (s.withLink l) rfl)
  · have owner (u : State) (same : u.modes = s.modes) (measured : u.monitor = s.monitor) : armPart u = refuseArm u .condition := by
      have present : (s.monitor.uvm || s.monitor.ovt) = true := Bool.or_eq_true .. |>.mpr condition
      simp only [armPart, same, standby, measured, present, if_true]
    exact congrArg Host.Outcome.next (linkCommand_owner admits rfl fun l => owner (s.withLink l) rfl rfl)
  · have owner (u : State) (same : u.modes = s.modes) (measured : u.monitor = s.monitor) (store : u.store = s.store) :
        armPart u = refuseArm u .session := by
      simp [armPart, same, standby, measured, uvm, ovt, store, session]
    exact congrArg Host.Outcome.next (linkCommand_owner admits rfl fun l => owner (s.withLink l) rfl rfl rfl)
  · have owner (u : State) (same : u.modes = s.modes) (measured : u.monitor = s.monitor) (store : u.store = s.store) :
        armPart u = okWith (u.setMode .armed) {} := by
      simp [armPart, same, standby, measured, uvm, ovt, store, closed]
    exact congrArg Host.Outcome.next (linkCommand_owner admits rfl fun l => owner (s.withLink l) rfl rfl rfl)
  · exact congrArg Host.Outcome.next (linkCommand_owner admits rfl fun l => if_pos asserted)
  · have other : ¬s.modes.nsafeSeen = .asserted := by rw [deasserted]; decide
    exact congrArg Host.Outcome.next (linkCommand_owner admits rfl fun l => if_neg other)

/-! ### READ_FAULTS and SET_FAULT_MASK -/

/-- The bits of the byte of a set of channels (12.4). -/
theorem channelSet_getLsbD (set : ChannelId → Bool) (ch : ChannelId) : (channelSet set).getLsbD ch.val = set ch := by
  have all : allChannels = List.finRange 8 := by decide
  rw [channelSet, all, BitVec.getLsbD_ofNat, decide_eq_true ch.isLt, Bool.true_and]
  exact testBit_sum_bits 8 set ch

theorem byteOf_deviceFlags (u : FaultUnit) :
    byteOf (deviceFlags u) = 0#5 ++ BitVec.ofBool u.comm ++ BitVec.ofBool u.uvm ++ BitVec.ofBool u.ovt := by
  unfold deviceFlags
  generalize u.comm = comm, u.uvm = uvm, u.ovt = ovt
  revert comm uvm ovt; decide

/-- FLAGS, bit by bit (12.8). -/
theorem faultFlagsData_eq (s : State) :
    faultFlagsData s =
      { b4 := channelSet fun ch => (s.chFault ch).overcurrent, b5 := channelSet fun ch => (s.chFault ch).openLoad
        b6 := 0#3 ++ BitVec.ofBool s.nFaultAsserted ++ BitVec.ofBool s.withheldAny ++ BitVec.ofBool s.faults.comm ++
          BitVec.ofBool s.faults.uvm ++ BitVec.ofBool s.faults.ovt
        b7 := 0#2 ++ BitVec.ofBool s.faults.masks.withheld ++ BitVec.ofBool s.faults.masks.comm ++
          BitVec.ofBool s.faults.masks.uvm ++ BitVec.ofBool s.faults.masks.ovt ++ BitVec.ofBool s.faults.masks.openLoad ++
          BitVec.ofBool s.faults.masks.overcurrent
        b8 := BitVec.ofNat 8 (stretchCode s.faults.stretch)
        b9 := BitVec.ofNat 8 (stretchMs s.faults.timer / 256), b10 := BitVec.ofNat 8 (stretchMs s.faults.timer) } := by
  have flags : ∀ ovt uvm comm withheld line : Bool,
      byteOf (bit ovt + bit uvm * 2 + bit comm * 4 + bit withheld * 8 + bit line * 16) =
        0#3 ++ BitVec.ofBool line ++ BitVec.ofBool withheld ++ BitVec.ofBool comm ++ BitVec.ofBool uvm ++ BitVec.ofBool ovt := by
    decide
  have masks : ∀ m : Masks, byteOf (masksCode m) =
      0#2 ++ BitVec.ofBool m.withheld ++ BitVec.ofBool m.comm ++ BitVec.ofBool m.uvm ++ BitVec.ofBool m.ovt ++
        BitVec.ofBool m.openLoad ++ BitVec.ofBool m.overcurrent := by
    rintro ⟨overcurrent, openLoad, ovt, uvm, comm, withheld⟩
    revert overcurrent openLoad ovt uvm comm withheld
    decide
  rw [faultFlagsData, deviceFlags, flags, masks]
  rfl

theorem masksCode_masksOf (b : Byte) (named : onlyNamed b 0x3F = true) : byteOf (masksCode (masksOf b)) = b := by
  revert b; decide +kernel

theorem stretchOf_of_code {b : Byte} {stretch : StretchSetting} (code : stretchCode stretch = b.toNat) : stretchOf b = stretch := by
  have coded : ∀ b : Byte, ∀ n < 4, b.toNat = n → b.toNat % 4 = n := by omega
  have same := coded b (stretchCode stretch) (by cases stretch <;> decide) code.symm
  unfold stretchOf
  rw [same]
  cases stretch <;> rfl

theorem faultFlagsData_withLink (s : State) (l : LinkPort) : faultFlagsData (s.withLink l) = faultFlagsData s := rfl

theorem monitorData_withLink (s : State) (l : LinkPort) : monitorData (s.withLink l) = monitorData s := rfl

/-- Settles O39: the two parts bit by bit, and the masks and the setting that a byte spells. -/
theorem faultReadsAndMasks : Obligations.FaultReadsAndMasks := by
  refine ⟨fun f s => ⟨fun admits => ⟨fun flags => ?_, fun monitor => ?_, fun other other' => ?_⟩, fun admits stretch code => ?_⟩,
    rfl, channelSet_getLsbD, fun s withheld ms any time => ⟨byteOf_deviceFlags _, ?_, fun d hd => ?_⟩⟩
  · refine congrArg Host.Outcome.next (linkCommand_owner admits rfl fun l => (if_pos flags).trans ?_)
    rw [faultFlagsData_withLink]
    rfl
  · refine congrArg Host.Outcome.next (linkCommand_owner admits rfl fun l =>
      (if_neg (by rw [monitor]; decide)).trans ((if_pos monitor).trans ?_))
    rw [monitorData_withLink]
    rfl
  · exact congrArg Host.Outcome.next (linkCommand_owner admits rfl fun l => (if_neg other).trans (if_neg other'))
  · have named : onlyNamed f.b2 0x3F = true := by
      obtain ⟨-, -, -, clear, -⟩ := admits
      simp only [reservedClear, namedBits, Bool.and_eq_true, and_assoc] at clear
      obtain ⟨-, b2, -⟩ := clear
      exact b2
    have masks := masksCode_masksOf f.b2 named
    have setting := stretchOf_of_code code
    have b5 : byteOf (stretchCode stretch) = f.b3 := by rw [code, byteOf, BitVec.ofNat_toNat, BitVec.setWidth_eq]
    refine congrArg Host.Outcome.next (linkCommand_owner admits rfl fun l => ?_)
    rw [setFaultMask, masks, setting, b5]
    rfl
  · have flag : s.withheldAny = withheld := by
      rw [Bool.eq_iff_iff, any]
      exact any_allProfiles_iff _
    have remaining : ms = stretchMs s.faults.timer := by
      rw [time]
      cases s.faults.timer <;> rfl
    rw [faultFlagsData_eq, flag, remaining]
  · subst hd
    refine ⟨rfl, rfl, rfl, ?_, rfl, rfl, ?_, rfl⟩
    · have coded : ∀ uvm ovt progOk : Bool, byteOf (bit uvm + bit ovt * 2 + bit progOk * 4) =
          0#5 ++ BitVec.ofBool progOk ++ BitVec.ofBool ovt ++ BitVec.ofBool uvm := by decide
      exact coded ..
    · refine (hiByte_append_loByte _).trans ?_
      rw [tempWord, BitVec.ofNat_toNat, BitVec.setWidth_eq]

/-! ### CLEAR_FAULTS -/

/-- What a judgment of its latches leaves of a channel's fault items (R146). -/
def ChannelFault.judged (f : ChannelFault) : ChannelFault :=
  if f.latched = false then f else if f.clear.latched then f.clear else { f.clear with window := 0 }

/-- What a judgment of its latches leaves of a channel's record: where the last latch goes, the edge-armed flag is set from the line
if the channel is READY then (R63, R73). -/
def Channel.judged (c : Channel) (f : ChannelFault) : Channel :=
  if f.latched = true ∧ f.clear.latched = false then
    { c with edgeArmed := c.running.isNone && c.binding.isSome && decide (c.ctlSeen = .deasserted) }
  else c

theorem State.clearLatches_eq (s : State) (ch : ChannelId) :
    s.clearLatches ch =
      (s.setChFault ch (s.chFault ch).judged).setChannel ch ((s.channel ch).judged (s.chFault ch)) := by
  simp only [State.clearLatches, ChannelFault.judged, Channel.judged]
  cases latched : (s.chFault ch).latched with
  | false => simp [State.setChFault_self, State.setChannel_self]
  | true =>
    cases kept : (s.chFault ch).clear.latched with
    | true =>
      simp only [Bool.not_true, Bool.true_eq_false, if_false, if_true, Bool.false_eq_true, and_false]
      exact (State.setChannel_self _ ch).symm
    | false =>
      have cleared : ({ (s.chFault ch).clear with window := 0 } : ChannelFault).latched = false := kept
      simp only [Bool.not_true, Bool.true_eq_false, if_false, if_true, Bool.false_eq_true, and_self, State.setChFault_setChFault,
        State.settleEdge, State.ready, State.driving, State.setChFault_channel, State.chFault_setChFault_same, cleared,
        Bool.not_false, Bool.and_true, Channel.edgeFromLine, Option.not_isSome]

section
variable {f : ChannelFault} (c : Channel)

theorem ChannelFault.judged_of_unlatched (clear : f.latched = false) : f.judged = f ∧ c.judged f = c :=
  ⟨if_pos clear, if_neg (by rw [clear]; nofun)⟩

variable {oc ol : Bool} (hoc : oc = (f.overcurrent && f.overcurrentPresent)) (hol : ol = (f.openLoad && decide (f.pull = .outOfBand)))
include hoc hol

theorem ChannelFault.clear_eq : f.clear = { f with overcurrent := oc, openLoad := ol } := by
  rw [hoc, hol]
  rfl

theorem ChannelFault.judged_of_kept (latched : f.latched = true) (kept : oc = true ∨ ol = true) :
    f.judged = { f with overcurrent := oc, openLoad := ol } ∧ c.judged f = c := by
  have stays : f.clear.latched = true := by
    rw [ChannelFault.clear_eq hoc hol, ChannelFault.latched, Bool.or_eq_true]
    exact kept
  rw [ChannelFault.judged, Channel.judged, latched, stays, ← ChannelFault.clear_eq hoc hol]
  exact ⟨rfl, rfl⟩

theorem ChannelFault.judged_of_cleared (latched : f.latched = true) (none_ : oc = false) (none' : ol = false) :
    f.judged = { f with overcurrent := false, openLoad := false, window := 0 } ∧
      c.judged f = { c with edgeArmed := c.running.isNone && c.binding.isSome && decide (c.ctlSeen = .deasserted) } := by
  have gone := ChannelFault.clear_eq hoc hol
  rw [none_, none'] at gone
  have left : f.clear.latched = false := by rw [gone]; rfl
  rw [ChannelFault.judged, Channel.judged, latched, left, gone]
  exact ⟨rfl, rfl⟩

end

/-- The judgments of the channels' latches reach the channel records and the channels' fault items, and nothing else (R146). -/
theorem State.clearLatchesAll_frame (l : List ChannelId) (s : State) :
    l.foldl State.clearLatches s =
      { s with
        channels := (l.foldl State.clearLatches s).channels
        faults := { s.faults with channels := (l.foldl State.clearLatches s).faults.channels } } := by
  induction l generalizing s with
  | nil => rfl
  | cons ch l ih =>
    rw [List.foldl_cons, ih (s.clearLatches ch)]
    generalize (l.foldl State.clearLatches (s.clearLatches ch)).channels = channels
    generalize (l.foldl State.clearLatches (s.clearLatches ch)).faults.channels = faults
    rw [State.clearLatches_eq]
    rfl

/-- Each channel's latches are judged once, whatever the other channels hold (R146). -/
theorem State.clearLatchesAll_channel (s : State) (ch : ChannelId) :
    (allChannels.foldl State.clearLatches s).chFault ch = (s.chFault ch).judged ∧
      (allChannels.foldl State.clearLatches s).channel ch = (s.channel ch).judged (s.chFault ch) := by
  have each := foldl_item (item := fun s ch => (s.chFault ch, s.channel ch)) (f := State.clearLatches)
    (g := fun _ x => (x.1.judged, x.2.judged x.1))
    (fun s i => by
      rw [State.clearLatches_eq, State.setChannel_chFault, State.chFault_setChFault_same, State.channel_setChannel_same])
    (fun s i j other => by
      rw [State.clearLatches_eq, State.setChannel_chFault, State.chFault_setChFault, State.channel_setChannel, if_neg other,
        if_neg other]
      rfl) nodup_allChannels s (mem_allChannels ch)
  exact Prod.mk.inj each

theorem State.clearLatches_withLink (s : State) (l : LinkPort) (ch : ChannelId) :
    (s.withLink l).clearLatches ch = (s.clearLatches ch).withLink l := by
  rw [State.clearLatches_eq, State.clearLatches_eq]
  rfl

theorem State.clearAllFaults_withLink (s : State) (l : LinkPort) : (s.withLink l).clearAllFaults = s.clearAllFaults.withLink l := by
  have flags (u : State) : (u.withLink l).clearDeviceFlags = u.clearDeviceFlags.withLink l := rfl
  rw [State.clearAllFaults, foldl_withLink_of State.clearLatches State.clearLatches_withLink, flags, State.clearAllFaults]

theorem remainingFaults_withLink (s : State) (l : LinkPort) : remainingFaults (s.withLink l) = remainingFaults s := rfl

/-- Settles O40: each targeted channel's judgment, and for ALL the device flags' with them. -/
theorem clearFaultsJudgesConditions : Obligations.ClearFaultsJudgesConditions := by
  refine ⟨fun f s ch oc ol admits id hoc hol => ⟨s.clearLatches ch, ?_, fun clear => ?_, fun latched =>
    ⟨fun kept => ?_, fun none_ none' => ?_⟩⟩, fun f s admits all => ⟨s.clearAllFaults, ?_, fun ch oc ol hoc hol => ?_, ?_⟩⟩
  · have one : f.b2 ≠ 255 := fun all => by
      have := ch.isLt
      rw [all] at id
      exact absurd id (by simp; omega)
    have device : (s.clearLatches ch).faults.ovt = s.faults.ovt ∧ (s.clearLatches ch).faults.uvm = s.faults.uvm ∧
        (s.clearLatches ch).faults.comm = s.faults.comm := by
      rw [State.clearLatches_eq]
      exact ⟨rfl, rfl, rfl⟩
    have flags : deviceFlags (s.clearLatches ch).faults = deviceFlags s.faults := by
      rw [deviceFlags, device.1, device.2.1, device.2.2, deviceFlags]
    have link : (s.clearLatches ch).link = s.link := by rw [State.clearLatches_eq]; rfl
    rw [← flags]
    refine congrArg Host.Outcome.next (linkCommand_owner admits link fun l =>
      (if_neg one).trans ((withChannel_of_id id _ _).trans ?_))
    rw [State.clearLatches_withLink, remainingFaults_withLink]
    rfl
  · obtain ⟨fault, record⟩ := ChannelFault.judged_of_unlatched (s.channel ch) clear
    rw [State.clearLatches_eq, fault, record, State.setChFault_self, State.setChannel_self]
  · obtain ⟨fault, record⟩ := ChannelFault.judged_of_kept (s.channel ch) hoc hol latched kept
    rw [State.clearLatches_eq, fault, record]
    exact State.setChannel_self _ ch
  · obtain ⟨fault, record⟩ := ChannelFault.judged_of_cleared (s.channel ch) hoc hol latched none_ none'
    rw [State.clearLatches_eq, fault, record]
  · have link : s.clearAllFaults.link = s.link := by
      have frame := State.clearLatchesAll_frame allChannels s
      rw [State.clearAllFaults, State.clearDeviceFlags_link]
      generalize allChannels.foldl State.clearLatches s = t at frame ⊢
      rw [frame]
    refine congrArg Host.Outcome.next (linkCommand_owner admits link fun l => (if_pos all).trans ?_)
    rw [State.clearAllFaults_withLink, remainingFaults_withLink]
    generalize s.clearAllFaults = t
    rfl
  · have each : s.clearAllFaults.chFault ch = (s.chFault ch).judged ∧
        s.clearAllFaults.channel ch = (s.channel ch).judged (s.chFault ch) := by
      have flags (u : State) : u.clearDeviceFlags.chFault ch = u.chFault ch := rfl
      rw [State.clearAllFaults, flags, State.clearDeviceFlags_channel]
      exact s.clearLatchesAll_channel ch
    rw [each.1, each.2]
    exact ⟨ChannelFault.judged_of_unlatched _, fun latched =>
      ⟨ChannelFault.judged_of_kept _ hoc hol latched, ChannelFault.judged_of_cleared _ hoc hol latched⟩⟩
  · have frame := State.clearLatchesAll_frame allChannels s
    rw [State.clearAllFaults]
    generalize allChannels.foldl State.clearLatches s = t at frame
    rw [frame]
    exact ⟨rfl, rfl, rfl, rfl, rfl, rfl, rfl, rfl, rfl, rfl, rfl, rfl, rfl, rfl, rfl, rfl, rfl⟩

end Sys2Proof.Machine
end


section
/-! The monitor's conditions and the shared period (R141 to R144, R150, R155, R160, R161, R171, R175, R176). -/

namespace Sys2Proof.Machine

/-! ### What a judged condition does -/

/-- PROG_OK after a VS measurement in 10 mV (R141). -/
def progOkAfter (progOk : Bool) (vs : Nat) : Bool := if progOk then decide (1050 ≤ vs) else decide (1100 ≤ vs)

theorem State.judgeProgOk_eq (s : State) (vs : Nat) :
    s.judgeProgOk vs = { s with
      monitor := { s.monitor with progOk := progOkAfter s.monitor.progOk vs }
      store := if s.monitor.progOk = true ∧ vs < 1050 then s.store.abandon else s.store } := by
  unfold State.judgeProgOk progOkAfter
  cases ok : s.monitor.progOk with
  | false =>
    by_cases high : 1100 ≤ vs
    · simp [high, Config.progOkFrom]
    · have same : ({ s with monitor := { s.monitor with progOk := false } } : State) = s := by rw [← ok]
      simpa [ok, high, Config.progOkFrom] using same.symm
  | true =>
    by_cases low : vs < 1050
    · simp [low, Config.progOkLostBelow, State.loseProgOk]
    · have same : ({ s with monitor := { s.monitor with progOk := true } } : State) = s := by rw [← ok]
      simpa [ok, low, Config.progOkLostBelow, Nat.not_lt.mp low] using same.symm

theorem State.resume_eq (s : State) :
    s.resume = { s with modes := { s.modes with
      mode := if s.modes.mode = .suspended ∧ s.monitor.uvm = false ∧ s.monitor.ovt = false then .armed else s.modes.mode } } := by
  rcases s.resume_cases with ⟨suspended, uvm, ovt, e⟩ | ⟨other, e⟩ <;> rw [e]
  · rw [if_pos ⟨suspended, uvm, ovt⟩]; rfl
  · rw [if_neg other]

/-- The timer after an onset of a class (R150). -/
def FaultUnit.onsetTimer (u : FaultUnit) (masked : Bool) : Option Nat :=
  if masked = true ∨ u.stretch = .zero then u.timer else some (stretchPeriods u.stretch)

theorem FaultUnit.startStretch_timer (u : FaultUnit) (masked : Bool) :
    u.startStretch masked = { u with timer := u.onsetTimer masked } := by
  unfold FaultUnit.startStretch FaultUnit.onsetTimer
  split <;> rfl

/-- What an onset leaves of the channels, the table and the pool: an ARMED part is stopped, any other left (R160). -/
def State.stoppedIfArmed (s : State) (cause : EndCause) : State := if s.modes.mode = .armed then s.stopAll cause else s

/-- The modes after an onset (R160). -/
def ModeControl.suspendedIfArmed (m : ModeControl) : ModeControl := if m.mode = .armed then { m with mode := .suspended } else m

/-- What an onset sets of the monitor and the fault unit may as well be set after the channels are stopped. -/
theorem State.suspend_withBlocks (s : State) (cause : EndCause) (monitor : Monitor) (faults : FaultUnit)
    (same : faults.channels = s.faults.channels) :
    ({ s with monitor := monitor, faults := faults } : State).suspend cause =
      { s.stoppedIfArmed cause with monitor := monitor, faults := faults, modes := s.modes.suspendedIfArmed } := by
  obtain ⟨-, -, -, -, modes, store, -, -⟩ := s.stopAll_rest cause
  by_cases armed : s.modes.mode = .armed
  · have stopped := s.stopAll_withBlocks cause monitor faults s.modes s.store same
    rw [State.suspend, State.stoppedIfArmed, ModeControl.suspendedIfArmed, if_pos armed, if_pos armed, if_pos armed]
    refine (congrArg (State.setMode · .suspended) stopped).trans ?_
    generalize s.stopAll cause = t at *
    rw [← store]; rfl
  · rw [State.suspend, State.stoppedIfArmed, ModeControl.suspendedIfArmed, if_neg armed, if_neg armed, if_neg armed]

theorem State.stoppedIfArmed_rest (s : State) (cause : EndCause) :
    (s.stoppedIfArmed cause).store = s.store ∧ (s.stoppedIfArmed cause).link = s.link ∧
      (s.stoppedIfArmed cause).loader = s.loader ∧ (s.stoppedIfArmed cause).inFullReset = s.inFullReset ∧
      (s.stoppedIfArmed cause).pending = s.pending := by
  unfold State.stoppedIfArmed
  split
  · obtain ⟨pending, reset, -, -, -, store, loader, link⟩ := s.stopAll_rest cause
    exact ⟨store, link, loader, reset, pending⟩
  · exact ⟨rfl, rfl, rfl, rfl, rfl⟩

/-! ### What a measurement leaves -/

theorem State.measureVs_onset {s : State} {vs : Nat} (absent : s.monitor.uvm = false) (low : vs < 600) :
    s.measureVs vs = { s.stoppedIfArmed .suspendedSupply with
      monitor := { s.monitor with vs := vs, uvm := true, progOk := false }
      faults := { s.faults with uvm := true, timer := s.faults.onsetTimer s.faults.masks.uvm }
      modes := s.modes.suspendedIfArmed
      store := if s.monitor.progOk = true then s.store.abandon else s.store } := by
  obtain ⟨store, -⟩ := s.stoppedIfArmed_rest .suspendedSupply
  have kept : min Config.maxVs vs = vs := Nat.min_eq_right (by unfold Config.maxVs; omega)
  have onset := s.suspend_withBlocks .suspendedSupply { s.monitor with vs := vs, uvm := true }
    { s.faults with uvm := true, timer := s.faults.onsetTimer s.faults.masks.uvm } rfl
  have lost : progOkAfter s.monitor.progOk vs = false := by
    cases s.monitor.progOk with
    | false => exact decide_eq_false (by omega)
    | true => exact decide_eq_false (by omega)
  rw [State.measureVs, kept, State.judgeUvm, if_pos ⟨by simp [absent], low⟩, State.onsetUvm, FaultUnit.startStretch_timer]
  refine (congrArg (State.judgeProgOk · vs) onset).trans ?_
  rw [State.judgeProgOk_eq]
  generalize s.stoppedIfArmed .suspendedSupply = t at *
  simp only [lost, store, show vs < 1050 by omega, and_true]

theorem State.measureVs_clears {s : State} {vs : Nat} (present : s.monitor.uvm = true) (high : 650 < vs) :
    s.measureVs vs = { s with
      monitor := { s.monitor with vs := min 4095 vs, uvm := false, progOk := progOkAfter s.monitor.progOk vs }
      modes := { s.modes with mode := if s.modes.mode = .suspended ∧ s.monitor.ovt = false then .armed else s.modes.mode }
      store := if s.monitor.progOk = true ∧ vs < 1050 then s.store.abandon else s.store } := by
  rw [State.measureVs, State.judgeUvm, if_neg (by simp [present]), if_pos ⟨present, high⟩, State.clearUvm, State.resume_eq,
    State.judgeProgOk_eq]
  simp only [true_and]
  rfl

theorem State.measureVs_steady {s : State} {vs : Nat} (absent : s.monitor.uvm = false → 600 ≤ vs)
    (present : s.monitor.uvm = true → vs ≤ 650) :
    s.measureVs vs = { s with
      monitor := { s.monitor with vs := min 4095 vs, progOk := progOkAfter s.monitor.progOk vs }
      store := if s.monitor.progOk = true ∧ vs < 1050 then s.store.abandon else s.store } := by
  have still : ({ s with monitor := { s.monitor with vs := min Config.maxVs vs } } : State).judgeUvm vs =
      { s with monitor := { s.monitor with vs := min Config.maxVs vs } } := by
    rcases State.judgeUvm_cases { s with monitor := { s.monitor with vs := min Config.maxVs vs } } vs with
      ⟨uvm, low, -⟩ | ⟨uvm, high, -⟩ | e
    · exact absurd low (Nat.not_lt.mpr (absent uvm))
    · exact absurd high (Nat.not_lt.mpr (present uvm))
    · exact e
  rw [State.measureVs, still, State.judgeProgOk_eq]
  rfl

theorem State.measureTemp_onset {s : State} {temp : Int} (absent : s.monitor.ovt = false) (high : 165 ≤ temp) :
    s.measureTemp temp = { s.stoppedIfArmed .suspendedTemp with
      monitor := { s.monitor with temp := min 200 temp, ovt := true }
      faults := { s.faults with ovt := true, timer := s.faults.onsetTimer s.faults.masks.ovt }
      modes := s.modes.suspendedIfArmed } := by
  have kept : max Config.minTemp (min Config.maxTemp temp) = min 200 temp := by
    unfold Config.minTemp Config.maxTemp; omega
  rw [State.measureTemp, kept, State.judgeOvt, if_pos ⟨by simp [absent], high⟩, State.onsetOvt, FaultUnit.startStretch_timer]
  exact s.suspend_withBlocks .suspendedTemp { s.monitor with temp := min 200 temp, ovt := true }
    { s.faults with ovt := true, timer := s.faults.onsetTimer s.faults.masks.ovt } rfl

theorem State.measureTemp_clears {s : State} {temp : Int} (present : s.monitor.ovt = true) (low : temp < 145) :
    s.measureTemp temp = { s with
      monitor := { s.monitor with temp := max (-40) temp, ovt := false }
      modes := { s.modes with
        mode := if s.modes.mode = .suspended ∧ s.monitor.uvm = false then .armed else s.modes.mode } } := by
  have kept : max Config.minTemp (min Config.maxTemp temp) = max (-40) temp := by
    unfold Config.minTemp Config.maxTemp; omega
  rw [State.measureTemp, kept, State.judgeOvt, if_neg (by simp [present]), if_pos ⟨present, low⟩, State.clearOvt, State.resume_eq]
  simp only [and_true]

theorem State.measureTemp_steady {s : State} {temp : Int} (absent : s.monitor.ovt = false → temp < 165)
    (present : s.monitor.ovt = true → 145 ≤ temp) :
    s.measureTemp temp = { s with monitor := { s.monitor with temp := max (-40) (min 200 temp) } } := by
  rcases State.judgeOvt_cases { s with monitor := { s.monitor with temp := max Config.minTemp (min Config.maxTemp temp) } } temp with
    ⟨ovt, high, -⟩ | ⟨ovt, low, -⟩ | e
  · exact absurd (absent ovt) (Int.not_lt.mpr high)
  · exact absurd (present ovt) (Int.not_le.mpr low)
  · exact e

/-! ### The monitor's rows -/

section
variable {s : State} (hr : s.inFullReset = false)
include hr

theorem exec_uvmOnset {vs : Nat} (row : s.monitor.uvm = false ∧ vs < 600) : exec (.uvmOnset vs) s = .next (s.measureVs vs) :=
  congrArg Host.Outcome.next (if_pos ⟨by simp [hr], by simp [row.1], row.2⟩)

theorem exec_uvmClears {vs : Nat} (row : s.monitor.uvm = true ∧ 650 < vs) : exec (.uvmClears vs) s = .next (s.measureVs vs) :=
  congrArg Host.Outcome.next (if_pos ⟨by simp [hr], row⟩)

theorem exec_progOkTrue {vs : Nat} (row : s.monitor.progOk = false ∧ 1100 ≤ vs) :
    exec (.progOkTrue vs) s = .next (s.measureVs vs) :=
  congrArg Host.Outcome.next (if_pos ⟨by simp [hr], by simp [row.1], row.2⟩)

theorem exec_progOkFalse {vs : Nat} (row : s.monitor.progOk = true ∧ vs < 1050) :
    exec (.progOkFalse vs) s = .next (s.measureVs vs) :=
  congrArg Host.Outcome.next (if_pos ⟨by simp [hr], row⟩)

theorem exec_ovtOnset {temp : Int} (row : s.monitor.ovt = false ∧ 165 ≤ temp) :
    exec (.ovtOnset temp) s = .next (s.measureTemp temp) :=
  congrArg Host.Outcome.next (if_pos ⟨by simp [hr], by simp [row.1], row.2⟩)

theorem exec_ovtClears {temp : Int} (row : s.monitor.ovt = true ∧ temp < 145) :
    exec (.ovtClears temp) s = .next (s.measureTemp temp) :=
  congrArg Host.Outcome.next (if_pos ⟨by simp [hr], row⟩)

end

/-! ### O42 -/

theorem State.allStopped_stoppedIfArmed {s : State} {cause : EndCause} (aborted : ∀ fs, verdictOf cause fs = .aborted)
    (armed : s.modes.mode = .armed) : s.AllStopped (s.stoppedIfArmed cause) cause := by
  rw [State.stoppedIfArmed, if_pos armed]
  exact s.allStopped_stopAll aborted

/-- Settles O42: the measurement with its onset, the channels stopped before what it sets. -/
theorem onsetsSetFlagsAndSuspend : Obligations.OnsetsSetFlagsAndSuspend := by
  refine ⟨fun s vs hr absent low => ⟨_, exec_uvmOnset hr ⟨absent, low⟩, ?_⟩,
    fun s temp hr absent high => ⟨_, exec_ovtOnset hr ⟨absent, high⟩, ?_⟩⟩
  · rw [State.measureVs_onset absent low]
    obtain ⟨-, link, loader, reset, pending⟩ := s.stoppedIfArmed_rest .suspendedSupply
    have stopped : _ → _ := State.allStopped_stoppedIfArmed (s := s) (cause := .suspendedSupply) fun _ => rfl
    have left (away : s.modes.mode ≠ .armed) : s.stoppedIfArmed .suspendedSupply = s := if_neg away
    generalize s.stoppedIfArmed .suspendedSupply = t at *
    refine ⟨rfl, rfl, rfl, rfl, rfl, rfl, fun armed => ⟨if_pos armed, stopped armed⟩, fun away => ?_, link, loader, reset, pending,
      fun ok => if_neg (by rw [ok]; decide), fun ok => (if_pos ok).trans (s.store.abandon_eq.trans rfl)⟩
    rw [left away]
    exact ⟨if_neg away, rfl, rfl, rfl, rfl, rfl⟩
  · rw [State.measureTemp_onset absent high]
    obtain ⟨store, link, loader, reset, pending⟩ := s.stoppedIfArmed_rest .suspendedTemp
    have stopped : _ → _ := State.allStopped_stoppedIfArmed (s := s) (cause := .suspendedTemp) fun _ => rfl
    have left (away : s.modes.mode ≠ .armed) : s.stoppedIfArmed .suspendedTemp = s := if_neg away
    generalize s.stoppedIfArmed .suspendedTemp = t at *
    refine ⟨rfl, rfl, fun armed => ⟨if_pos armed, stopped armed⟩, fun away => ?_, link, loader, reset, pending, store⟩
    rw [left away]
    exact ⟨if_neg away, rfl, rfl, rfl, rfl, rfl⟩

/-! ### O43 -/

/-- Settles O43: one measurement makes every change it names, whichever row reports it. -/
theorem clearingsAndProgOk : Obligations.ClearingsAndProgOk := by
  refine ⟨fun s vs hr present high progOk modes lost hok hmodes hlost => ?_, fun s temp hr present low => ?_,
    fun s vs hr lacks absent high => ?_, fun s vs hr ok low absent present => ?_, fun s vs hr ok absent low => ?_⟩
  · subst hok hmodes
    have row := exec_uvmClears hr ⟨present, high⟩
    refine ⟨?_, fun lacks from1100 => (exec_progOkTrue hr ⟨lacks, from1100⟩).trans row.symm,
      fun ok below1050 => (exec_progOkFalse hr ⟨ok, below1050⟩).trans row.symm⟩
    have abandoned : s.store.abandon = lost := (s.store.abandon_eq.trans rfl).trans hlost.symm
    rw [row, State.measureVs_clears present high, abandoned]
    rfl
  · rw [exec_ovtClears hr ⟨present, low⟩, State.measureTemp_clears present low]
  · rw [exec_progOkTrue hr ⟨lacks, high⟩,
      State.measureVs_steady (fun _ => by omega) (fun present => by rw [absent] at present; cases present)]
    simp [lacks, progOkAfter, high]
  · rw [exec_progOkFalse hr ⟨ok, low⟩, State.measureVs_steady absent present, if_pos ⟨ok, low⟩,
      Nat.min_eq_right (by omega : vs ≤ 4095), show progOkAfter s.monitor.progOk vs = false by simp [ok, progOkAfter, low]]
    exact congrArg (fun st : Store => Host.Outcome.next
      ({ s with monitor := { s.monitor with vs := vs, progOk := false }, store := st } : State)) (s.store.abandon_eq.trans rfl)
  · exact (exec_progOkFalse hr ⟨ok, by omega⟩).trans (exec_uvmOnset hr ⟨absent, low⟩).symm

end Sys2Proof.Machine
end


section
/-! The shared period (R82, R141, R143, R150, R155, R175). -/

namespace Sys2Proof.Machine

/-! ### The counts -/

theorem Store.settleWrite_of_pending {st : Store} (pending : ∀ w, st.inFlight = some w → 1 ≤ w.remaining) : st.settleWrite = st := by
  rcases st.settleWrite_cases with ⟨-, e⟩ | ⟨w, running, ⟨due, -⟩ | ⟨-, e⟩⟩
  · exact e
  · have := pending w running; omega
  · exact e

theorem Store.writePeriod_eq (st : Store) :
    st.writePeriod = { st with inFlight := st.inFlight.map fun w => { w with remaining := w.remaining - 1 } } := by
  unfold Store.writePeriod
  split
  next idle => rw [idle, Option.map_none, ← idle]
  next w writing => rw [writing]; rfl

theorem Store.settleWrite_again (st : Store) : st.settleWrite.settleWrite = st.settleWrite := by
  rcases st.settleWrite_cases with ⟨-, e⟩ | ⟨w, -, ⟨-, e⟩ | ⟨-, e⟩⟩
  · rw [e, e]
  · rw [e]; rfl
  · rw [e, e]

theorem settleStretch_again (timer : Option Nat) : settleStretch (settleStretch timer) = settleStretch timer := by
  rcases timer with _ | _ | n <;> rfl

theorem State.sharedCounts_eq {s : State} (pending : ∀ w, s.store.inFlight = some w → 1 ≤ w.remaining) :
    s.sharedCounts = { s with
      store := { s.store with inFlight := s.store.inFlight.map fun w => { w with remaining := w.remaining - 1 } }
      faults := { s.faults with timer := s.faults.timer.bind fun n => if n = 0 then none else some (n - 1) } } := by
  obtain ⟨-, timer⟩ := settleStretch_eq s.faults.timer
  rw [State.sharedCounts, Store.settleWrite_of_pending pending, Store.writePeriod_eq, timer]

/-! ### The period and its rows -/

section
variable {s : State} (hr : s.inFullReset = false)
include hr

theorem exec_sharedPeriod (vs vdd : Nat) (temp : Int) (nsafe : LineLevel) :
    exec (.regulationPeriod (.shared vs vdd temp nsafe)) s = .next (s.sharedPeriod vs vdd temp nsafe) :=
  congrArg Host.Outcome.next (if_neg (by simp [hr]))

theorem exec_storeWriteComplete : exec .storeWriteComplete s = .next { s with store := s.store.settleWrite } :=
  congrArg Host.Outcome.next (if_neg (by simp [hr]))

theorem exec_stretchExpired :
    exec .stretchExpired s = .next { s with faults := { s.faults with timer := settleStretch s.faults.timer } } :=
  congrArg Host.Outcome.next (if_neg (by simp [hr]))

/-- A VS measurement is the row of its change, or changes the value kept alone (R141). -/
theorem measureVs_rows (vs : Nat) :
    (if s.monitor.uvm = false ∧ vs < 600 then exec (.uvmOnset vs) s
      else if s.monitor.uvm = true ∧ 650 < vs then exec (.uvmClears vs) s
      else if s.monitor.progOk = false ∧ 1100 ≤ vs then exec (.progOkTrue vs) s
      else if s.monitor.progOk = true ∧ vs < 1050 then exec (.progOkFalse vs) s
      else .next { s with monitor := { s.monitor with vs := min 4095 vs } }) = .next (s.measureVs vs) := by
  split
  · exact exec_uvmOnset hr ‹_›
  next noOnset =>
    split
    · exact exec_uvmClears hr ‹_›
    next noClearing =>
      split
      · exact exec_progOkTrue hr ‹_›
      next noGain =>
        split
        · exact exec_progOkFalse hr ‹_›
        next noLoss =>
          have steady : progOkAfter s.monitor.progOk vs = s.monitor.progOk := by
            cases ok : s.monitor.progOk with
            | false => exact decide_eq_false fun high => noGain ⟨ok, high⟩
            | true => exact decide_eq_true (Nat.not_lt.mp fun low => noLoss ⟨ok, low⟩)
          rw [State.measureVs_steady (fun absent => Nat.not_lt.mp fun low => noOnset ⟨absent, low⟩)
            (fun present => Nat.not_lt.mp fun high => noClearing ⟨present, high⟩), steady, if_neg noLoss]

/-- A measurement of the temperature is the row of its change, or changes the value kept alone (R141). -/
theorem measureTemp_rows (temp : Int) :
    (if s.monitor.ovt = false ∧ 165 ≤ temp then exec (.ovtOnset temp) s
      else if s.monitor.ovt = true ∧ temp < 145 then exec (.ovtClears temp) s
      else .next { s with monitor := { s.monitor with temp := max (-40) (min 200 temp) } }) = .next (s.measureTemp temp) := by
  split
  · exact exec_ovtOnset hr ‹_›
  next noOnset =>
    split
    · exact exec_ovtClears hr ‹_›
    next noClearing =>
      rw [State.measureTemp_steady (fun absent => Int.not_le.mp fun high => noOnset ⟨absent, high⟩)
        (fun present => Int.not_lt.mp fun low => noClearing ⟨present, low⟩)]

/-- A sample of nSAFE is the row of its level (R155). -/
theorem sampleNsafe_rows (level : LineLevel) :
    .next (s.sampleNsafe level) = match level with
      | .asserted => exec .nsafeAsserted s
      | .deasserted => exec .nsafeDeasserted s := by
  cases level <;> exact congrArg Host.Outcome.next (if_neg (by simp [hr])).symm

end

theorem State.stoppedIfArmed_reset (s : State) (cause : EndCause) : (s.stoppedIfArmed cause).inFullReset = s.inFullReset := by
  obtain ⟨-, -, -, reset, -⟩ := s.stoppedIfArmed_rest cause
  exact reset

theorem State.measureVs_kept (s : State) (vs : Nat) :
    (s.measureVs vs).inFullReset = s.inFullReset ∧ (s.measureVs vs).monitor.ovt = s.monitor.ovt := by
  by_cases onset : s.monitor.uvm = false ∧ vs < 600
  · rw [State.measureVs_onset onset.1 onset.2]
    exact ⟨s.stoppedIfArmed_reset _, rfl⟩
  · by_cases clearing : s.monitor.uvm = true ∧ 650 < vs
    · rw [State.measureVs_clears clearing.1 clearing.2]
      exact ⟨rfl, rfl⟩
    · rw [State.measureVs_steady (fun absent => Nat.not_lt.mp fun low => onset ⟨absent, low⟩)
        (fun present => Nat.not_lt.mp fun high => clearing ⟨present, high⟩)]
      exact ⟨rfl, rfl⟩

theorem State.measureTemp_reset (s : State) (temp : Int) : (s.measureTemp temp).inFullReset = s.inFullReset := by
  by_cases onset : s.monitor.ovt = false ∧ 165 ≤ temp
  · rw [State.measureTemp_onset onset.1 onset.2]
    exact s.stoppedIfArmed_reset _
  · by_cases clearing : s.monitor.ovt = true ∧ temp < 145
    · rw [State.measureTemp_clears clearing.1 clearing.2]
    · rw [State.measureTemp_steady (fun absent => Int.not_le.mp fun high => onset ⟨absent, high⟩)
        (fun present => Int.not_lt.mp fun low => clearing ⟨present, low⟩)]

theorem State.sharedPeriod_adequate (s : State) {vdd : Nat} (adequate : 250 ≤ vdd) (vs : Nat) (temp : Int) (nsafe : LineLevel) :
    s.sharedPeriod vs vdd temp nsafe = ((s.sharedCounts.measureVs vs).measureTemp temp).sampleNsafe nsafe :=
  if_neg (Nat.not_lt.mpr adequate)

/-- A due write that is taken first leaves the period as it is (R175). -/
theorem State.sharedCounts_settleWrite (s : State) : ({ s with store := s.store.settleWrite } : State).sharedCounts = s.sharedCounts := by
  simp only [State.sharedCounts, Store.settleWrite_again]

/-- A stretch that is stopped first leaves the period as it is (R150). -/
theorem State.sharedPeriod_settleStretch (s : State) (vs vdd : Nat) (temp : Int) (nsafe : LineLevel) :
    ({ s with faults := { s.faults with timer := settleStretch s.faults.timer } } : State).sharedPeriod vs vdd temp nsafe =
      s.sharedPeriod vs vdd temp nsafe := by
  have counts : ({ s with faults := { s.faults with timer := settleStretch s.faults.timer } } : State).sharedCounts =
      s.sharedCounts := by
    simp only [State.sharedCounts, stretchPeriod, settleStretch_again]
  rw [State.sharedPeriod, counts]
  rfl

/-- Measurements that change no condition change the values kept alone (R141). -/
theorem State.measures_steady {s : State} {vs : Nat} {temp : Int} (uvmOff : s.monitor.uvm = false → 600 ≤ vs)
    (uvmOn : s.monitor.uvm = true → vs ≤ 650) (ovtOff : s.monitor.ovt = false → temp < 165)
    (ovtOn : s.monitor.ovt = true → 145 ≤ temp) (okOff : s.monitor.progOk = false → vs < 1100)
    (okOn : s.monitor.progOk = true → 1050 ≤ vs) :
    (s.measureVs vs).measureTemp temp =
      { s with monitor := { s.monitor with vs := min 4095 vs, temp := max (-40) (min 200 temp) } } := by
  have steady : progOkAfter s.monitor.progOk vs = s.monitor.progOk := by
    cases ok : s.monitor.progOk
    · exact decide_eq_false (Nat.not_le.mpr (okOff ok))
    · exact decide_eq_true (okOn ok)
  have kept : ¬ (s.monitor.progOk = true ∧ vs < 1050) := fun ⟨ok, low⟩ => absurd (okOn ok) (Nat.not_le.mpr low)
  rw [State.measureVs_steady uvmOff uvmOn, steady, if_neg kept]
  exact State.measureTemp_steady ovtOff ovtOn

/-- Settles O32: the counts, then each measurement and the sample as its row. -/
theorem sharedPeriodMeasuresAndCounts : Obligations.SharedPeriodMeasuresAndCounts := by
  refine ⟨fun s vs vdd temp nsafe hr low => ?_, fun s vs vdd temp hr adequate uvmOff uvmOn ovtOff ovtOn okOff okOn pending => ?_,
    fun s c t u vs vdd temp nsafe hr adequate pending counts volts heat => ?_,
    fun s t vs vdd temp nsafe => ⟨fun adequate row => ?_, fun row => ?_⟩, fun s hr => ⟨fun due => ?_, fun undue => ?_⟩⟩
  · exact (exec_sharedPeriod hr vs vdd temp nsafe).trans (congrArg Host.Outcome.next (if_pos low))
  · rw [exec_sharedPeriod hr, State.sharedPeriod_adequate s adequate,
      State.measures_steady (s := s.sharedCounts) uvmOff uvmOn ovtOff ovtOn okOff okOn, State.sharedCounts_eq pending]
    rfl
  · have hc : c.inFullReset = false := by rw [counts]; exact hr
    have monitor : c.monitor = s.monitor := by rw [counts]
    obtain ⟨reset, ovt⟩ := c.measureVs_kept vs
    rw [← monitor] at volts heat
    cases (measureVs_rows hc vs).symm.trans volts
    have ht : (c.measureVs vs).inFullReset = false := reset.trans hc
    rw [← ovt] at heat
    cases (measureTemp_rows ht temp).symm.trans heat
    rw [exec_sharedPeriod hr, State.sharedPeriod_adequate s adequate, State.sharedCounts_eq pending, ← counts]
    exact sampleNsafe_rows (((c.measureVs vs).measureTemp_reset temp).trans ht) nsafe
  · cases hr : s.inFullReset with
    | true =>
      cases (exec_of_reset hr .storeWriteComplete nofun nofun).symm.trans row
      rfl
    | false =>
      cases (exec_storeWriteComplete hr).symm.trans row
      have after : ({ s with store := s.store.settleWrite } : State).inFullReset = false := hr
      rw [exec_sharedPeriod hr, exec_sharedPeriod after, State.sharedPeriod_adequate _ adequate,
        State.sharedPeriod_adequate _ adequate, State.sharedCounts_settleWrite]
  · cases hr : s.inFullReset with
    | true =>
      cases (exec_of_reset hr .stretchExpired nofun nofun).symm.trans row
      rfl
    | false =>
      cases (exec_stretchExpired hr).symm.trans row
      have after : ({ s with faults := { s.faults with timer := settleStretch s.faults.timer } } : State).inFullReset = false := hr
      rw [exec_sharedPeriod hr, exec_sharedPeriod after, State.sharedPeriod_settleStretch]
  · rw [exec_stretchExpired hr, due]
    rfl
  · have still : settleStretch s.faults.timer = s.faults.timer := by
      rcases timer : s.faults.timer with _ | _ | n
      · rfl
      · exact absurd timer undue
      · rfl
    rw [exec_stretchExpired hr, still]

end Sys2Proof.Machine
end


section
/-! The store's commands (R169 to R178). -/

namespace Sys2Proof.Machine

/-! ### O48 -/

section
variable {s : State}

theorem openSession_of_locked (locked : s.store.locked = true) : openSession s = refuse s .locked := if_pos locked

theorem openSession_of_lowSupply (unlocked : s.store.locked = false) (low : s.monitor.progOk = false) :
    openSession s = refuse s .lowSupply :=
  (if_neg (by simp [unlocked])).trans (if_pos (by simp [low]))

theorem openSession_of_write (unlocked : s.store.locked = false) (ok : s.monitor.progOk = true)
    (writing : s.store.inFlight.isSome = true) : openSession s = refuse s .storeBusy :=
  (if_neg (by simp [unlocked])).trans ((if_neg (by simp [ok])).trans (if_pos writing))

theorem openSession_opens (unlocked : s.store.locked = false) (ok : s.monitor.progOk = true) (idle : s.store.inFlight = none) :
    openSession s = okWith { s with store := { s.store with session := .isOpen } } { b4 := 1, b5 := 0 } := by
  have data : sessionData { s.store with session := .isOpen } = { b4 := 1, b5 := 0 } := by
    simp only [sessionData, unlocked]
    rfl
  refine (if_neg (by simp [unlocked])).trans ((if_neg (by simp [ok])).trans ((if_neg (by simp [idle])).trans ?_))
  exact congrArg (okWith _) data

theorem closeSession_of_write (writing : s.store.inFlight.isSome = true) : closeSession s = refuse s .storeBusy := if_pos writing

theorem closeSession_of_closed (idle : s.store.inFlight = none) (closed : s.store.session = .closed) :
    closeSession s = refuse s .storeClosed :=
  (if_neg (by simp [idle])).trans (if_pos closed)

theorem closeSession_closes (idle : s.store.inFlight = none) (held : s.store.session ≠ .closed) :
    closeSession s = okWith { s with store := { s.store with session := .closed } } {} :=
  (if_neg (by simp [idle])).trans (if_neg held)

end

/-- Settles O48: each refusal in its turn, then the session. -/
theorem storeSessionsOpenAndClose : Obligations.StoreSessionsOpenAndClose := by
  refine ⟨fun f s admits => ⟨fun locked => ?_, fun unlocked low => ?_, fun unlocked ok writing => ?_, fun unlocked ok idle => ?_⟩,
    fun f s admits => ⟨fun writing => ?_, fun idle closed => ?_, fun idle held => ?_⟩⟩ <;>
    refine congrArg Host.Outcome.next (linkCommand_owner admits rfl fun l => ?_)
  · exact openSession_of_locked (s := s.withLink l) locked
  · exact openSession_of_lowSupply (s := s.withLink l) unlocked low
  · exact openSession_of_write (s := s.withLink l) unlocked ok writing
  · exact openSession_opens (s := s.withLink l) unlocked ok idle
  · exact closeSession_of_write (s := s.withLink l) writing
  · exact closeSession_of_closed (s := s.withLink l) idle closed
  · exact closeSession_closes (s := s.withLink l) idle held

/-! ### O49 -/

section
variable {s : State} (k : State × Answer)

theorem withSession_of_none (away : s.store.session ≠ .isOpen) : withSession s k = refuse s .storeClosed := if_pos away

theorem withSession_of_write (held : s.store.session = .isOpen) (writing : s.store.inFlight.isSome = true) :
    withSession s k = refuse s .storeBusy :=
  (if_neg (not_not.mpr held)).trans (if_pos writing)

theorem withSession_of_open (held : s.store.session = .isOpen) (idle : s.store.inFlight = none) : withSession s k = k :=
  (if_neg (not_not.mpr held)).trans (if_neg (by simp [idle]))

end

theorem Store.lowestBlank_of_exhausted {st : Store} {slot : Slot} (exhausted : ∀ x ∈ st.states slot, x ≠ .blank) :
    st.lowestBlank slot = none := by
  rw [Store.lowestBlank, List.findIdx?_eq_none_iff.mpr fun x hx => decide_eq_false (exhausted x hx), Option.map_none]

theorem Store.lowestBlank_of_first {st : Store} {slot : Slot} {i : Nat} (blank : (st.states slot)[i]? = some .blank)
    (first : ∀ j < i, (st.states slot)[j]? ≠ some .blank) : st.lowestBlank slot = some (i + 1) := by
  obtain ⟨held, here⟩ := List.getElem?_eq_some_iff.mp blank
  have found : (st.states slot).findIdx? (fun c => decide (c = .blank)) = some i :=
    List.findIdx?_eq_some_iff_getElem.mpr ⟨held, decide_eq_true here, fun j lt => by
      have other := first j lt
      rw [List.getElem?_eq_getElem (lt.trans held)] at other
      simpa using other⟩
  rw [Store.lowestBlank, found, Option.map_some]

/-- The reply of an accepted write: its copy, and the generation of what it writes (12.8). -/
def writeData (gen copy : Nat) : ReplyData := { b4 := byteOf copy, b5 := hiByte gen, b6 := loByte gen }

/-- A store write that comes to its snapshot is refused in order, or begins into the lowest blank copy (R172 to R175). -/
theorem storeWrite_answers {f : Frame} {s : State} {c : Command} (owner : State → State × Answer) (slot : Slot)
    (snapshot : CopyContent) (gen : Nat) (admits : s.admits c f)
    (taken : exec (linkInstr c f) s = .next (linkCommand c f s owner))
    (own : ∀ l, owner (s.withLink l) = withSession (s.withLink l) (acceptWrite (s.withLink l) slot snapshot (writeData gen))) :
    (s.store.session ≠ .isOpen → exec (linkInstr c f) s = .next (s.replied c f .storeClosed {})) ∧
    (s.store.session = .isOpen → s.store.inFlight.isSome = true →
      exec (linkInstr c f) s = .next (s.replied c f .storeBusy {})) ∧
    (s.store.session = .isOpen → s.store.inFlight = none →
      ((∀ x ∈ s.store.states slot, x ≠ .blank) → exec (linkInstr c f) s = .next (s.replied c f .slotExhausted {})) ∧
      (∀ i : Nat, (s.store.states slot)[i]? = some .blank → (∀ j : Nat, j < i → (s.store.states slot)[j]? ≠ some .blank) →
        exec (linkInstr c f) s = .next
          ((s.setStore (s.store.beginWrite slot (i + 1) snapshot)).replied c f .accepted (writeData gen (i + 1))))) := by
  refine ⟨fun away => ?_, fun held writing => ?_, fun held idle => ⟨fun exhausted => ?_, fun i blank first => ?_⟩⟩ <;>
    refine taken.trans (congrArg Host.Outcome.next (linkCommand_owner admits rfl fun l => (own l).trans ?_))
  · exact withSession_of_none (s := s.withLink l) _ away
  · exact withSession_of_write (s := s.withLink l) _ held writing
  · rw [withSession_of_open (s := s.withLink l) _ held idle, acceptWrite, State.withLink_store,
      Store.lowestBlank_of_exhausted exhausted]
    rfl
  · rw [withSession_of_open (s := s.withLink l) _ held idle, acceptWrite, State.withLink_store, Store.lowestBlank_of_first blank first]
    rfl

/-- Settles O49: the three owners come to one write. -/
theorem storeWritesBeginIntoLowestBlankCopy : Obligations.StoreWritesBeginIntoLowestBlankCopy := by
  intro f s c slot snapshot gen admits kind
  rcases kind with ⟨rfl, p, v, id, live, at_, rfl, rfl⟩ | ⟨rfl, rfl, rfl, rfl⟩ | ⟨rfl, rfl, rfl, rfl⟩
  · obtain rfl : slot = profileSlot p := Fin.ext at_
    refine storeWrite_answers (writeProfile f) (profileSlot p) (.profile p v.gen v.shape) v.gen admits rfl fun l => ?_
    rw [writeProfile, withProfile_of_id id, State.withLink_profile, live]
    rfl
  · exact storeWrite_answers (writeMap f) mapSlot (s.mapSnapshot (f.b2.getLsbD 0)) 0 admits rfl fun l => rfl
  · exact storeWrite_answers writeLock lockSlot .lockMark 0 admits rfl fun l => rfl

/-! ### O50 -/

theorem writeProfile_of_absent {f : Frame} {p : ProfileId} {s : State} (id : f.b2.toNat = p.val + 1)
    (absent : (s.profile p).live = none) : writeProfile f s = withSession s (refuse s .noProfile) := by
  rw [writeProfile, withProfile_of_id id, absent]

theorem Store.settleWrite_of_due {st : Store} {w : Write} (writing : st.inFlight = some w) (due : w.remaining = 0) :
    st.settleWrite = st.completeWrite w := by
  unfold Store.settleWrite
  rw [writing]
  exact if_pos (decide_eq_true due)

theorem slotOfCode_of_code {b : Byte} {slot : Slot}
    (code : (b.toNat = slot.val + 1 ∧ slot.val < 32) ∨ (b = 64 ∧ slot = 32) ∨ (b = 65 ∧ slot = 33)) : slotOfCode b = some slot := by
  rcases code with ⟨value, profile⟩ | ⟨rfl, rfl⟩ | ⟨rfl, rfl⟩
  · rw [slotOfCode, dif_pos ⟨by omega, by omega⟩]
    exact congrArg some (Fin.ext (by simp [value]))
  · rfl
  · rfl

theorem slotOfCode_of_other {b : Byte} (other : b.toNat = 0 ∨ (33 ≤ b.toNat ∧ b ≠ 64 ∧ b ≠ 65)) : slotOfCode b = none := by
  rcases other with zero | ⟨above, notMap, notLock⟩
  · obtain rfl : b = 0 := BitVec.eq_of_toNat_eq zero
    rfl
  · rw [slotOfCode, dif_neg (by omega), if_neg notMap, if_neg notLock]

theorem byteOf_slotCode (slot : Slot) :
    byteOf (slotCode slot) = if slot.val < 32 then BitVec.ofNat 8 (slot.val + 1) else if slot = 32 then 64 else 65 := by
  revert slot; decide

/-- STORE_QUERY's reply, bit by bit (12.8). -/
theorem queryData_eq {st : Store} {slot : Slot} {copy : Nat → BitVec 2} {code : Slot → Byte} {gen : Nat}
    (copies : ∀ i, copy i = match (st.record.get slot)[i]? with
      | some .blank => 0 | some .valid => 1 | some .spoiled => 2 | none => 3)
    (codes : ∀ x, code x = byteOf (slotCode x)) (newest : gen = st.newestGeneration slot) :
    queryData st slot =
      { b4 := 0#2 ++ copy 2 ++ copy 1 ++ copy 0
        b5 := hiByte gen, b6 := loByte gen
        b7 := 0#3 ++ BitVec.ofBool st.locked ++
          (match st.session with | .closed => 0#2 | .isOpen => 1#2 | .closing => 2#2) ++ BitVec.ofNat 2 (st.blanks slot)
        b8 := match st.inFlight with | none => 0 | some w => code w.slot
        b9 := 0#2 ++
          (match st.lastResult with | .none => 0#2 | .done _ _ => 1#2 | .abandoned _ _ => 2#2) ++
          (match st.lastResult with | .none => 0#2 | .done _ n => BitVec.ofNat 2 n | .abandoned _ n => BitVec.ofNat 2 n) ++
          (match st.inFlight with | none => 0#2 | some w => BitVec.ofNat 2 w.copy)
        b10 := match st.lastResult with | .none => 0 | .done x _ => code x | .abandoned x _ => code x } := by
  have state (i : Nat) : BitVec.ofNat 2 (copyStateCode (st.states slot)[i]?) = copy i := by
    rw [copies i, Store.states]
    rcases (st.record.get slot)[i]? with _ | _ | _ | _ <;> rfl
  rw [queryData, state 0, state 1, state 2, newest]
  have session : BitVec.ofNat 2 (sessionCode st.session) =
      match st.session with | .closed => 0#2 | .isOpen => 1#2 | .closing => 2#2 := by
    cases st.session <;> rfl
  have flightSlot : byteOf (inFlightCode st.inFlight).1 = match st.inFlight with | none => 0 | some w => code w.slot := by
    cases st.inFlight with
    | none => rfl
    | some w => exact (codes w.slot).symm
  have flightCopy : BitVec.ofNat 2 (inFlightCode st.inFlight).2 =
      match st.inFlight with | none => 0#2 | some w => BitVec.ofNat 2 w.copy := by
    cases st.inFlight <;> rfl
  have result : BitVec.ofNat 2 (resultCodes st.lastResult).1 =
      match st.lastResult with | .none => 0#2 | .done _ _ => 1#2 | .abandoned _ _ => 2#2 := by
    cases st.lastResult <;> rfl
  have resultCopy : BitVec.ofNat 2 (resultCodes st.lastResult).2.2 =
      match st.lastResult with | .none => 0#2 | .done _ n => BitVec.ofNat 2 n | .abandoned _ n => BitVec.ofNat 2 n := by
    cases st.lastResult <;> rfl
  have resultSlot : byteOf (resultCodes st.lastResult).2.1 =
      match st.lastResult with | .none => 0 | .done x _ => code x | .abandoned x _ => code x := by
    cases st.lastResult with
    | none => rfl
    | done x _ => exact (codes x).symm
    | abandoned x _ => exact (codes x).symm
  simp only [session, flightSlot, flightCopy, result, resultCopy, resultSlot]

/-- Settles O50: the snapshot that there is not, the write whose time has passed, and the reply by its parts. -/
theorem storeWriteCompletesAndQueryAnswers : Obligations.StoreWriteCompletesAndQueryAnswers := by
  refine ⟨fun f s p admits id absent => ⟨fun away => ?_, fun held writing => ?_, fun held idle => ?_⟩,
    fun s w hr writing => ⟨fun early => ?_, fun due => ?_⟩, fun f s admits => ⟨fun slot code => ?_, fun other => ?_⟩,
    fun st slot copy code gen copies codes newest => ?_⟩
  · exact congrArg Host.Outcome.next (linkCommand_owner admits rfl fun l =>
      (writeProfile_of_absent (s := s.withLink l) id absent).trans (withSession_of_none _ away))
  · exact congrArg Host.Outcome.next (linkCommand_owner admits rfl fun l =>
      (writeProfile_of_absent (s := s.withLink l) id absent).trans (withSession_of_write _ held writing))
  · exact congrArg Host.Outcome.next (linkCommand_owner admits rfl fun l =>
      (writeProfile_of_absent (s := s.withLink l) id absent).trans (withSession_of_open _ held idle))
  · rw [exec_storeWriteComplete hr, Store.settleWrite_of_pending fun v hv => by rw [writing] at hv; cases hv; exact early]
  · rw [exec_storeWriteComplete hr, Store.settleWrite_of_due writing due]
    simp only [Store.completeWrite, decide_eq_true_eq]
    rfl
  · refine congrArg Host.Outcome.next (linkCommand_owner admits rfl fun l => ?_)
    rw [queryStore, slotOfCode_of_code code]
    rfl
  · refine congrArg Host.Outcome.next (linkCommand_owner admits rfl fun l => ?_)
    rw [queryStore, slotOfCode_of_other other]
    rfl
  · exact queryData_eq copies (fun x => (codes x).trans (byteOf_slotCode x).symm) newest

end Sys2Proof.Machine
end

end
